-- ==== Sys2Proof/Config.lean ====
section
/-!
DEFINITION. The parameters of the WDT core that the spec leaves OPEN (`00_scope.md` R6, `92_eei_decisions.md`), as
constants without a body: nothing in Lean can evaluate them, so what is proved holds for every value.
-/

namespace Sys2Proof

/-- `ZERO_RELOAD_EXPIRES` (R6, R114, D15, C6): whether a tick with `started`, `countdown_remaining = 0` and not
`timeout_pending` sets `timeout_pending`. OPEN in the spec; log entry 4. -/
opaque Config.zeroReloadExpires : Bool

/-- `CLK_HZ` (R6, R210, D25): the clock frequency. OPEN in the spec, used by no rule about state; log entry 10. -/
opaque Config.clkHz : Nat

end Sys2Proof
end

