-- ==== Sys2Proof/Word.lean ====
section
/-!
DEFINITION. The widths the WDT core's spec names: byte, half-word and word values (`00_scope.md` R12), the six bit
register selector and the 41 bit transaction word (`30_encoding.md` R62).
-/

namespace Sys2Proof

/-- Eight bits, suffix `.B` (R12). -/
abbrev Byte := BitVec 8

/-- Sixteen bits, suffix `.H` (R12). -/
abbrev Half := BitVec 16

/-- Thirty-two bits, suffix `.W` (R12): the width of COUNTDOWN and of the two counters (R6 `DATA_WIDTH`). -/
abbrev Word := BitVec 32

/-- A register selector as the transaction word carries it, `T[37:32]` (R65). -/
abbrev Addr := BitVec 6

/-- The 41 bit transaction word `rw[40] wc[39:38] addr[37:32] data[31:0]` (R62). -/
abbrev TxnWord := BitVec 41

end Sys2Proof
end

