-- ==== Sys2Proof/Syntax.lean ====
section
/-!
DEFINITION. What the host presents to the core in one clock cycle, as syntax: the transaction tuple (`30_encoding.md`
R60), the cycle input (R61), and `Instr`, one constructor per row of `opcode_table.json` (R67). A write carries its value
`v` at its own width (R66), a row of several unmapped selectors carries the selector.
-/

namespace Sys2Proof

/-- The three access widths (R44, R64). -/
inductive Width where
  | byte
  | half
  | word
deriving DecidableEq, Repr

/-- The two operations of a transaction (R60, R63). -/
inductive Op where
  | read
  | write
deriving DecidableEq, Repr

/-- One register access, the tuple (operation, width, address, value) of R60; on a read `value` is 0 (it is absent). -/
structure Txn where
  op    : Op
  width : Width
  addr  : Addr
  value : Word
deriving DecidableEq, Repr

/-- The input of one cycle, `in = (reset, txn)` of R61, the transaction as its 41 bit word (R62). -/
structure CycleInput where
  reset : Bool
  txn   : Option TxnWord
deriving DecidableEq, Repr

/-- Why the decoder refuses a transaction word. -/
inductive DecodeError where
  /-- The width code is `11`: "A decoder refuses a word with wc = 11" (R64). Safe: the cycle then runs as an idle cycle. -/
  | reservedWidthCode
deriving DecidableEq, Repr

/-- The operations of the block, one per row of `opcode_table.json`, in the table's order (R67). -/
inductive Instr where
  /-- `WR.B_ENABLE`: write 8 bits, ENABLE, selector 0 (R81). -/
  | wrBEnable (v : Byte)
  /-- `WR.H_ENABLE`: write 16 bits, ENABLE, selector 0 (R81). -/
  | wrHEnable (v : Half)
  /-- `WR.W_ENABLE`: write 32 bits, ENABLE, selector 0 (R81). -/
  | wrWEnable (v : Word)
  /-- `WR.B_START`: write 8 bits, START, selector 1 (R82). -/
  | wrBStart (v : Byte)
  /-- `WR.H_START`: write 16 bits, START, selector 1 (R82). -/
  | wrHStart (v : Half)
  /-- `WR.W_START`: write 32 bits, START, selector 1 (R82). -/
  | wrWStart (v : Word)
  /-- `WR.B_COUNTDOWN`: write 8 bits, COUNTDOWN, selector 2 (R83). -/
  | wrBCountdown (v : Byte)
  /-- `WR.H_COUNTDOWN`: write 16 bits, COUNTDOWN, selector 2 (R84). -/
  | wrHCountdown (v : Half)
  /-- `WR.W_COUNTDOWN`: write 32 bits, COUNTDOWN, selector 2 (R85). -/
  | wrWCountdown (v : Word)
  /-- `WR.B_TAP`: write 8 bits, TAP, selector 3 (R86). -/
  | wrBTap (v : Byte)
  /-- `WR.H_TAP`: write 16 bits, TAP, selector 3 (R86). -/
  | wrHTap (v : Half)
  /-- `WR.W_TAP`: write 32 bits, TAP, selector 3 (R86). -/
  | wrWTap (v : Word)
  /-- `WR.B_STATUS`: write 8 bits, STATUS, selector 4 (R87). -/
  | wrBStatus (v : Byte)
  /-- `WR.H_STATUS`: write 16 bits, STATUS, selector 4 (R87). -/
  | wrHStatus (v : Half)
  /-- `WR.W_STATUS`: write 32 bits, STATUS, selector 4 (R87). -/
  | wrWStatus (v : Word)
  /-- `WR.B_UNMAPPED_5..5`: write 8 bits, the unmapped selector 5 (R88). -/
  | wrBUnmapped5 (v : Byte)
  /-- `WR.H_UNMAPPED_5..5`: write 16 bits, the unmapped selector 5 (R88). -/
  | wrHUnmapped5 (v : Half)
  /-- `WR.W_UNMAPPED_5..5`: write 32 bits, the unmapped selector 5 (R88). -/
  | wrWUnmapped5 (v : Word)
  /-- `WR.B_UNMAPPED_6..7`: write 8 bits, an unmapped selector 6 to 7 (R88). -/
  | wrBUnmapped6To7 (addr : Addr) (v : Byte)
  /-- `WR.H_UNMAPPED_6..7`: write 16 bits, an unmapped selector 6 to 7 (R88). -/
  | wrHUnmapped6To7 (addr : Addr) (v : Half)
  /-- `WR.W_UNMAPPED_6..7`: write 32 bits, an unmapped selector 6 to 7 (R88). -/
  | wrWUnmapped6To7 (addr : Addr) (v : Word)
  /-- `WR.B_UNMAPPED_8..15`: write 8 bits, an unmapped selector 8 to 15 (R88). -/
  | wrBUnmapped8To15 (addr : Addr) (v : Byte)
  /-- `WR.H_UNMAPPED_8..15`: write 16 bits, an unmapped selector 8 to 15 (R88). -/
  | wrHUnmapped8To15 (addr : Addr) (v : Half)
  /-- `WR.W_UNMAPPED_8..15`: write 32 bits, an unmapped selector 8 to 15 (R88). -/
  | wrWUnmapped8To15 (addr : Addr) (v : Word)
  /-- `WR.B_UNMAPPED_16..31`: write 8 bits, an unmapped selector 16 to 31 (R88). -/
  | wrBUnmapped16To31 (addr : Addr) (v : Byte)
  /-- `WR.H_UNMAPPED_16..31`: write 16 bits, an unmapped selector 16 to 31 (R88). -/
  | wrHUnmapped16To31 (addr : Addr) (v : Half)
  /-- `WR.W_UNMAPPED_16..31`: write 32 bits, an unmapped selector 16 to 31 (R88). -/
  | wrWUnmapped16To31 (addr : Addr) (v : Word)
  /-- `WR.B_UNMAPPED_32..63`: write 8 bits, an unmapped selector 32 to 63 (R88). -/
  | wrBUnmapped32To63 (addr : Addr) (v : Byte)
  /-- `WR.H_UNMAPPED_32..63`: write 16 bits, an unmapped selector 32 to 63 (R88). -/
  | wrHUnmapped32To63 (addr : Addr) (v : Half)
  /-- `WR.W_UNMAPPED_32..63`: write 32 bits, an unmapped selector 32 to 63 (R88). -/
  | wrWUnmapped32To63 (addr : Addr) (v : Word)
  /-- `RD.B_ENABLE`: read 8 bits, ENABLE, selector 0 (R105). -/
  | rdBEnable
  /-- `RD.H_ENABLE`: read 16 bits, ENABLE, selector 0 (R105). -/
  | rdHEnable
  /-- `RD.W_ENABLE`: read 32 bits, ENABLE, selector 0 (R105). -/
  | rdWEnable
  /-- `RD.B_START`: read 8 bits, START, selector 1 (R106). -/
  | rdBStart
  /-- `RD.H_START`: read 16 bits, START, selector 1 (R106). -/
  | rdHStart
  /-- `RD.W_START`: read 32 bits, START, selector 1 (R106). -/
  | rdWStart
  /-- `RD.B_COUNTDOWN`: read 8 bits, COUNTDOWN, selector 2 (R101). -/
  | rdBCountdown
  /-- `RD.H_COUNTDOWN`: read 16 bits, COUNTDOWN, selector 2 (R102). -/
  | rdHCountdown
  /-- `RD.W_COUNTDOWN`: read 32 bits, COUNTDOWN, selector 2 (R103). -/
  | rdWCountdown
  /-- `RD.B_TAP`: read 8 bits, TAP, selector 3 (R107). -/
  | rdBTap
  /-- `RD.H_TAP`: read 16 bits, TAP, selector 3 (R107). -/
  | rdHTap
  /-- `RD.W_TAP`: read 32 bits, TAP, selector 3 (R107). -/
  | rdWTap
  /-- `RD.B_STATUS`: read 8 bits, STATUS, selector 4 (R104). -/
  | rdBStatus
  /-- `RD.H_STATUS`: read 16 bits, STATUS, selector 4 (R104). -/
  | rdHStatus
  /-- `RD.W_STATUS`: read 32 bits, STATUS, selector 4 (R104). -/
  | rdWStatus
  /-- `RD.B_UNMAPPED_5..5`: read 8 bits, the unmapped selector 5 (R108). -/
  | rdBUnmapped5
  /-- `RD.H_UNMAPPED_5..5`: read 16 bits, the unmapped selector 5 (R108). -/
  | rdHUnmapped5
  /-- `RD.W_UNMAPPED_5..5`: read 32 bits, the unmapped selector 5 (R108). -/
  | rdWUnmapped5
  /-- `RD.B_UNMAPPED_6..7`: read 8 bits, an unmapped selector 6 to 7 (R108). -/
  | rdBUnmapped6To7 (addr : Addr)
  /-- `RD.H_UNMAPPED_6..7`: read 16 bits, an unmapped selector 6 to 7 (R108). -/
  | rdHUnmapped6To7 (addr : Addr)
  /-- `RD.W_UNMAPPED_6..7`: read 32 bits, an unmapped selector 6 to 7 (R108). -/
  | rdWUnmapped6To7 (addr : Addr)
  /-- `RD.B_UNMAPPED_8..15`: read 8 bits, an unmapped selector 8 to 15 (R108). -/
  | rdBUnmapped8To15 (addr : Addr)
  /-- `RD.H_UNMAPPED_8..15`: read 16 bits, an unmapped selector 8 to 15 (R108). -/
  | rdHUnmapped8To15 (addr : Addr)
  /-- `RD.W_UNMAPPED_8..15`: read 32 bits, an unmapped selector 8 to 15 (R108). -/
  | rdWUnmapped8To15 (addr : Addr)
  /-- `RD.B_UNMAPPED_16..31`: read 8 bits, an unmapped selector 16 to 31 (R108). -/
  | rdBUnmapped16To31 (addr : Addr)
  /-- `RD.H_UNMAPPED_16..31`: read 16 bits, an unmapped selector 16 to 31 (R108). -/
  | rdHUnmapped16To31 (addr : Addr)
  /-- `RD.W_UNMAPPED_16..31`: read 32 bits, an unmapped selector 16 to 31 (R108). -/
  | rdWUnmapped16To31 (addr : Addr)
  /-- `RD.B_UNMAPPED_32..63`: read 8 bits, an unmapped selector 32 to 63 (R108). -/
  | rdBUnmapped32To63 (addr : Addr)
  /-- `RD.H_UNMAPPED_32..63`: read 16 bits, an unmapped selector 32 to 63 (R108). -/
  | rdHUnmapped32To63 (addr : Addr)
  /-- `RD.W_UNMAPPED_32..63`: read 32 bits, an unmapped selector 32 to 63 (R108). -/
  | rdWUnmapped32To63 (addr : Addr)
  /-- `IDLE`: a cycle with no transaction: the tick only (R111). -/
  | idle
  /-- `RESET`: a cycle with reset asserted; a transaction presented is dropped (R118, R192). -/
  | reset
deriving DecidableEq, Repr

end Sys2Proof
end

