-- ==== Sys2Proof/WellFormed.lean ====
section
/-!
DEFINITION. Which terms of `Instr` stand for a row of the table: a row of several unmapped selectors holds only the
selectors of its own range (`30_encoding.md` R67, closing paragraph).
-/

namespace Sys2Proof

/-- The selector lies in the range a row covers. -/
def Addr.inRange (lo hi : Nat) (a : Addr) : Bool :=
  decide (lo ≤ a.toNat) && decide (a.toNat ≤ hi)

/-- The check of one instruction: only the rows of several unmapped selectors have anything to check. -/
def Instr.wf : Instr → Bool
  | .wrBEnable _ => true
  | .wrHEnable _ => true
  | .wrWEnable _ => true
  | .wrBStart _ => true
  | .wrHStart _ => true
  | .wrWStart _ => true
  | .wrBCountdown _ => true
  | .wrHCountdown _ => true
  | .wrWCountdown _ => true
  | .wrBTap _ => true
  | .wrHTap _ => true
  | .wrWTap _ => true
  | .wrBStatus _ => true
  | .wrHStatus _ => true
  | .wrWStatus _ => true
  | .wrBUnmapped5 _ => true
  | .wrHUnmapped5 _ => true
  | .wrWUnmapped5 _ => true
  | .wrBUnmapped6To7 addr _ => Addr.inRange 6 7 addr
  | .wrHUnmapped6To7 addr _ => Addr.inRange 6 7 addr
  | .wrWUnmapped6To7 addr _ => Addr.inRange 6 7 addr
  | .wrBUnmapped8To15 addr _ => Addr.inRange 8 15 addr
  | .wrHUnmapped8To15 addr _ => Addr.inRange 8 15 addr
  | .wrWUnmapped8To15 addr _ => Addr.inRange 8 15 addr
  | .wrBUnmapped16To31 addr _ => Addr.inRange 16 31 addr
  | .wrHUnmapped16To31 addr _ => Addr.inRange 16 31 addr
  | .wrWUnmapped16To31 addr _ => Addr.inRange 16 31 addr
  | .wrBUnmapped32To63 addr _ => Addr.inRange 32 63 addr
  | .wrHUnmapped32To63 addr _ => Addr.inRange 32 63 addr
  | .wrWUnmapped32To63 addr _ => Addr.inRange 32 63 addr
  | .rdBEnable => true
  | .rdHEnable => true
  | .rdWEnable => true
  | .rdBStart => true
  | .rdHStart => true
  | .rdWStart => true
  | .rdBCountdown => true
  | .rdHCountdown => true
  | .rdWCountdown => true
  | .rdBTap => true
  | .rdHTap => true
  | .rdWTap => true
  | .rdBStatus => true
  | .rdHStatus => true
  | .rdWStatus => true
  | .rdBUnmapped5 => true
  | .rdHUnmapped5 => true
  | .rdWUnmapped5 => true
  | .rdBUnmapped6To7 addr => Addr.inRange 6 7 addr
  | .rdHUnmapped6To7 addr => Addr.inRange 6 7 addr
  | .rdWUnmapped6To7 addr => Addr.inRange 6 7 addr
  | .rdBUnmapped8To15 addr => Addr.inRange 8 15 addr
  | .rdHUnmapped8To15 addr => Addr.inRange 8 15 addr
  | .rdWUnmapped8To15 addr => Addr.inRange 8 15 addr
  | .rdBUnmapped16To31 addr => Addr.inRange 16 31 addr
  | .rdHUnmapped16To31 addr => Addr.inRange 16 31 addr
  | .rdWUnmapped16To31 addr => Addr.inRange 16 31 addr
  | .rdBUnmapped32To63 addr => Addr.inRange 32 63 addr
  | .rdHUnmapped32To63 addr => Addr.inRange 32 63 addr
  | .rdWUnmapped32To63 addr => Addr.inRange 32 63 addr
  | .idle => true
  | .reset => true

/-- The instruction stands for a row of the table. -/
abbrev Instr.WellFormed (i : Instr) : Prop := i.wf = true

end Sys2Proof
end

