-- ==== Sys2Proof/Decode.lean ====
section
/-!
DEFINITION. The decoder of a cycle's input (`30_encoding.md` R62 to R67, R74), total on every 41 bit word, and after it
the encoder, the opcode table as mask and pattern rows, and the reading of the table's own bit numbering.
-/

namespace Sys2Proof

/-! ## Fields of the transaction word (R62) -/

/-- `T[40]`: 1 is a write, 0 a read (R63). -/
def TxnWord.rw (t : TxnWord) : BitVec 1 := t.extractLsb' 40 1

/-- `T[39:38]`: the width code (R64). -/
def TxnWord.wc (t : TxnWord) : BitVec 2 := t.extractLsb' 38 2

/-- `T[37:32]`: the register selector (R65). -/
def TxnWord.addr (t : TxnWord) : Addr := t.extractLsb' 32 6

/-- `T[31:0]`: the write data (R66). -/
def TxnWord.data (t : TxnWord) : Word := t.extractLsb' 0 32

/-- A word from its four fields (R62). -/
def TxnWord.ofFields (rw : BitVec 1) (wc : BitVec 2) (addr : Addr) (data : Word) : TxnWord :=
  rw ++ (wc ++ (addr ++ data))

/-! ## The tuple a word stands for -/

/-- The width a width code selects; `11` is reserved (R64). -/
def Width.ofCode (c : BitVec 2) : Option Width :=
  if c = 0b00#2 then some .byte
  else if c = 0b01#2 then some .half
  else if c = 0b10#2 then some .word
  else none

/-- The code of a width (R64). -/
def Width.code : Width → BitVec 2
  | .byte => 0b00#2
  | .half => 0b01#2
  | .word => 0b10#2

/-- How many bits an access of this width has (R12). -/
def Width.bits : Width → Nat
  | .byte => 8
  | .half => 16
  | .word => 32

/-- `v = data[w-1:0]` as a 32 bit number: the bits above the access width are ignored (R45, R66). -/
def operandValue (w : Width) (data : Word) : Word :=
  match w with
  | .byte => (data.setWidth 8).setWidth 32
  | .half => (data.setWidth 16).setWidth 32
  | .word => data

/-- The tuple (operation, width, address, value) of a word, or its refusal by name (R60, R64, R74). -/
def TxnWord.unpack (t : TxnWord) : Except DecodeError Txn :=
  match Width.ofCode t.wc with
  | none => .error .reservedWidthCode
  | some w =>
    if t.rw = 1#1 then .ok ⟨.write, w, t.addr, operandValue w t.data⟩
    else .ok ⟨.read, w, t.addr, 0#32⟩

/-! ## The operation map (R67) -/

/-- The address groups of the operation map: the five registers and the five unmapped ranges of the table. -/
inductive RegGroup where
  | enable | start | countdown | tap | status
  | unmapped5 | unmapped6To7 | unmapped8To15 | unmapped16To31 | unmapped32To63
deriving DecidableEq, Repr

/-- The group of a selector (R41, R43, R65). -/
def Addr.group (a : Addr) : RegGroup :=
  if a.toNat = 0 then .enable
  else if a.toNat = 1 then .start
  else if a.toNat = 2 then .countdown
  else if a.toNat = 3 then .tap
  else if a.toNat = 4 then .status
  else if a.toNat = 5 then .unmapped5
  else if a.toNat < 8 then .unmapped6To7
  else if a.toNat < 16 then .unmapped8To15
  else if a.toNat < 32 then .unmapped16To31
  else .unmapped32To63

/-- The row of the operation map that a transaction selects, by (operation, address, width) alone (R67, R74). -/
def Txn.select (t : Txn) : Instr :=
  match t.op, Addr.group t.addr, t.width with
  | .write, .enable, .byte => .wrBEnable (t.value.setWidth 8)
  | .write, .enable, .half => .wrHEnable (t.value.setWidth 16)
  | .write, .enable, .word => .wrWEnable t.value
  | .write, .start, .byte => .wrBStart (t.value.setWidth 8)
  | .write, .start, .half => .wrHStart (t.value.setWidth 16)
  | .write, .start, .word => .wrWStart t.value
  | .write, .countdown, .byte => .wrBCountdown (t.value.setWidth 8)
  | .write, .countdown, .half => .wrHCountdown (t.value.setWidth 16)
  | .write, .countdown, .word => .wrWCountdown t.value
  | .write, .tap, .byte => .wrBTap (t.value.setWidth 8)
  | .write, .tap, .half => .wrHTap (t.value.setWidth 16)
  | .write, .tap, .word => .wrWTap t.value
  | .write, .status, .byte => .wrBStatus (t.value.setWidth 8)
  | .write, .status, .half => .wrHStatus (t.value.setWidth 16)
  | .write, .status, .word => .wrWStatus t.value
  | .write, .unmapped5, .byte => .wrBUnmapped5 (t.value.setWidth 8)
  | .write, .unmapped5, .half => .wrHUnmapped5 (t.value.setWidth 16)
  | .write, .unmapped5, .word => .wrWUnmapped5 t.value
  | .write, .unmapped6To7, .byte => .wrBUnmapped6To7 t.addr (t.value.setWidth 8)
  | .write, .unmapped6To7, .half => .wrHUnmapped6To7 t.addr (t.value.setWidth 16)
  | .write, .unmapped6To7, .word => .wrWUnmapped6To7 t.addr t.value
  | .write, .unmapped8To15, .byte => .wrBUnmapped8To15 t.addr (t.value.setWidth 8)
  | .write, .unmapped8To15, .half => .wrHUnmapped8To15 t.addr (t.value.setWidth 16)
  | .write, .unmapped8To15, .word => .wrWUnmapped8To15 t.addr t.value
  | .write, .unmapped16To31, .byte => .wrBUnmapped16To31 t.addr (t.value.setWidth 8)
  | .write, .unmapped16To31, .half => .wrHUnmapped16To31 t.addr (t.value.setWidth 16)
  | .write, .unmapped16To31, .word => .wrWUnmapped16To31 t.addr t.value
  | .write, .unmapped32To63, .byte => .wrBUnmapped32To63 t.addr (t.value.setWidth 8)
  | .write, .unmapped32To63, .half => .wrHUnmapped32To63 t.addr (t.value.setWidth 16)
  | .write, .unmapped32To63, .word => .wrWUnmapped32To63 t.addr t.value
  | .read, .enable, .byte => .rdBEnable
  | .read, .enable, .half => .rdHEnable
  | .read, .enable, .word => .rdWEnable
  | .read, .start, .byte => .rdBStart
  | .read, .start, .half => .rdHStart
  | .read, .start, .word => .rdWStart
  | .read, .countdown, .byte => .rdBCountdown
  | .read, .countdown, .half => .rdHCountdown
  | .read, .countdown, .word => .rdWCountdown
  | .read, .tap, .byte => .rdBTap
  | .read, .tap, .half => .rdHTap
  | .read, .tap, .word => .rdWTap
  | .read, .status, .byte => .rdBStatus
  | .read, .status, .half => .rdHStatus
  | .read, .status, .word => .rdWStatus
  | .read, .unmapped5, .byte => .rdBUnmapped5
  | .read, .unmapped5, .half => .rdHUnmapped5
  | .read, .unmapped5, .word => .rdWUnmapped5
  | .read, .unmapped6To7, .byte => .rdBUnmapped6To7 t.addr
  | .read, .unmapped6To7, .half => .rdHUnmapped6To7 t.addr
  | .read, .unmapped6To7, .word => .rdWUnmapped6To7 t.addr
  | .read, .unmapped8To15, .byte => .rdBUnmapped8To15 t.addr
  | .read, .unmapped8To15, .half => .rdHUnmapped8To15 t.addr
  | .read, .unmapped8To15, .word => .rdWUnmapped8To15 t.addr
  | .read, .unmapped16To31, .byte => .rdBUnmapped16To31 t.addr
  | .read, .unmapped16To31, .half => .rdHUnmapped16To31 t.addr
  | .read, .unmapped16To31, .word => .rdWUnmapped16To31 t.addr
  | .read, .unmapped32To63, .byte => .rdBUnmapped32To63 t.addr
  | .read, .unmapped32To63, .half => .rdHUnmapped32To63 t.addr
  | .read, .unmapped32To63, .word => .rdWUnmapped32To63 t.addr

/-- The instruction a transaction word stands for, or the name of its refusal. -/
def decode (t : TxnWord) : Except DecodeError Instr :=
  t.unpack.map Txn.select

/-- "if reset then RESET; else if txn = none then IDLE; else if wc = 11 refuse; else the operation is selected by
(rw, addr, wc)" (R74). -/
def decodeInput (c : CycleInput) : Except DecodeError Instr :=
  if c.reset then .ok .reset
  else
    match c.txn with
    | none => .ok .idle
    | some t => decode t

/-! ## The encoder -/

/-- The tuple of an instruction that is a register access (R60, R67); IDLE and RESET have none. -/
def Instr.txn : Instr → Option Txn
  | .wrBEnable v => some ⟨.write, .byte, 0#6, (v.setWidth 32)⟩
  | .wrHEnable v => some ⟨.write, .half, 0#6, (v.setWidth 32)⟩
  | .wrWEnable v => some ⟨.write, .word, 0#6, v⟩
  | .wrBStart v => some ⟨.write, .byte, 1#6, (v.setWidth 32)⟩
  | .wrHStart v => some ⟨.write, .half, 1#6, (v.setWidth 32)⟩
  | .wrWStart v => some ⟨.write, .word, 1#6, v⟩
  | .wrBCountdown v => some ⟨.write, .byte, 2#6, (v.setWidth 32)⟩
  | .wrHCountdown v => some ⟨.write, .half, 2#6, (v.setWidth 32)⟩
  | .wrWCountdown v => some ⟨.write, .word, 2#6, v⟩
  | .wrBTap v => some ⟨.write, .byte, 3#6, (v.setWidth 32)⟩
  | .wrHTap v => some ⟨.write, .half, 3#6, (v.setWidth 32)⟩
  | .wrWTap v => some ⟨.write, .word, 3#6, v⟩
  | .wrBStatus v => some ⟨.write, .byte, 4#6, (v.setWidth 32)⟩
  | .wrHStatus v => some ⟨.write, .half, 4#6, (v.setWidth 32)⟩
  | .wrWStatus v => some ⟨.write, .word, 4#6, v⟩
  | .wrBUnmapped5 v => some ⟨.write, .byte, 5#6, (v.setWidth 32)⟩
  | .wrHUnmapped5 v => some ⟨.write, .half, 5#6, (v.setWidth 32)⟩
  | .wrWUnmapped5 v => some ⟨.write, .word, 5#6, v⟩
  | .wrBUnmapped6To7 addr v => some ⟨.write, .byte, addr, (v.setWidth 32)⟩
  | .wrHUnmapped6To7 addr v => some ⟨.write, .half, addr, (v.setWidth 32)⟩
  | .wrWUnmapped6To7 addr v => some ⟨.write, .word, addr, v⟩
  | .wrBUnmapped8To15 addr v => some ⟨.write, .byte, addr, (v.setWidth 32)⟩
  | .wrHUnmapped8To15 addr v => some ⟨.write, .half, addr, (v.setWidth 32)⟩
  | .wrWUnmapped8To15 addr v => some ⟨.write, .word, addr, v⟩
  | .wrBUnmapped16To31 addr v => some ⟨.write, .byte, addr, (v.setWidth 32)⟩
  | .wrHUnmapped16To31 addr v => some ⟨.write, .half, addr, (v.setWidth 32)⟩
  | .wrWUnmapped16To31 addr v => some ⟨.write, .word, addr, v⟩
  | .wrBUnmapped32To63 addr v => some ⟨.write, .byte, addr, (v.setWidth 32)⟩
  | .wrHUnmapped32To63 addr v => some ⟨.write, .half, addr, (v.setWidth 32)⟩
  | .wrWUnmapped32To63 addr v => some ⟨.write, .word, addr, v⟩
  | .rdBEnable => some ⟨.read, .byte, 0#6, 0#32⟩
  | .rdHEnable => some ⟨.read, .half, 0#6, 0#32⟩
  | .rdWEnable => some ⟨.read, .word, 0#6, 0#32⟩
  | .rdBStart => some ⟨.read, .byte, 1#6, 0#32⟩
  | .rdHStart => some ⟨.read, .half, 1#6, 0#32⟩
  | .rdWStart => some ⟨.read, .word, 1#6, 0#32⟩
  | .rdBCountdown => some ⟨.read, .byte, 2#6, 0#32⟩
  | .rdHCountdown => some ⟨.read, .half, 2#6, 0#32⟩
  | .rdWCountdown => some ⟨.read, .word, 2#6, 0#32⟩
  | .rdBTap => some ⟨.read, .byte, 3#6, 0#32⟩
  | .rdHTap => some ⟨.read, .half, 3#6, 0#32⟩
  | .rdWTap => some ⟨.read, .word, 3#6, 0#32⟩
  | .rdBStatus => some ⟨.read, .byte, 4#6, 0#32⟩
  | .rdHStatus => some ⟨.read, .half, 4#6, 0#32⟩
  | .rdWStatus => some ⟨.read, .word, 4#6, 0#32⟩
  | .rdBUnmapped5 => some ⟨.read, .byte, 5#6, 0#32⟩
  | .rdHUnmapped5 => some ⟨.read, .half, 5#6, 0#32⟩
  | .rdWUnmapped5 => some ⟨.read, .word, 5#6, 0#32⟩
  | .rdBUnmapped6To7 addr => some ⟨.read, .byte, addr, 0#32⟩
  | .rdHUnmapped6To7 addr => some ⟨.read, .half, addr, 0#32⟩
  | .rdWUnmapped6To7 addr => some ⟨.read, .word, addr, 0#32⟩
  | .rdBUnmapped8To15 addr => some ⟨.read, .byte, addr, 0#32⟩
  | .rdHUnmapped8To15 addr => some ⟨.read, .half, addr, 0#32⟩
  | .rdWUnmapped8To15 addr => some ⟨.read, .word, addr, 0#32⟩
  | .rdBUnmapped16To31 addr => some ⟨.read, .byte, addr, 0#32⟩
  | .rdHUnmapped16To31 addr => some ⟨.read, .half, addr, 0#32⟩
  | .rdWUnmapped16To31 addr => some ⟨.read, .word, addr, 0#32⟩
  | .rdBUnmapped32To63 addr => some ⟨.read, .byte, addr, 0#32⟩
  | .rdHUnmapped32To63 addr => some ⟨.read, .half, addr, 0#32⟩
  | .rdWUnmapped32To63 addr => some ⟨.read, .word, addr, 0#32⟩
  | .idle => none
  | .reset => none

/-- The word of a transaction, the bits above the access width and the data of a read being 0 (R62). -/
def Txn.pack (t : Txn) : TxnWord :=
  match t.op with
  | .write => TxnWord.ofFields 1#1 t.width.code t.addr t.value
  | .read  => TxnWord.ofFields 0#1 t.width.code t.addr 0#32

/-- The cycle input that presents an instruction: a transaction word, no transaction, or reset (R61, R67). -/
def encode (i : Instr) : CycleInput :=
  ⟨decide (i = .reset), i.txn.map Txn.pack⟩

/-! ## The table's rows as masks and patterns -/

/-- One transaction row of `opcode_table.json`: a word belongs to it when its masked bits equal the pattern. -/
structure TableRow where
  mnemonic : String
  mask     : TxnWord
  pattern  : TxnWord
deriving DecidableEq, Repr

/-- The word belongs to the row. -/
def TableRow.hits (r : TableRow) (t : TxnWord) : Bool :=
  t &&& r.mask == r.pattern

/-- The write rows of the five registers. -/
def writeRows : List TableRow := [
  ⟨"WR.B_ENABLE", 0x1FF00000000#41, 0x10000000000#41⟩,
  ⟨"WR.H_ENABLE", 0x1FF00000000#41, 0x14000000000#41⟩,
  ⟨"WR.W_ENABLE", 0x1FF00000000#41, 0x18000000000#41⟩,
  ⟨"WR.B_START", 0x1FF00000000#41, 0x10100000000#41⟩,
  ⟨"WR.H_START", 0x1FF00000000#41, 0x14100000000#41⟩,
  ⟨"WR.W_START", 0x1FF00000000#41, 0x18100000000#41⟩,
  ⟨"WR.B_COUNTDOWN", 0x1FF00000000#41, 0x10200000000#41⟩,
  ⟨"WR.H_COUNTDOWN", 0x1FF00000000#41, 0x14200000000#41⟩,
  ⟨"WR.W_COUNTDOWN", 0x1FF00000000#41, 0x18200000000#41⟩,
  ⟨"WR.B_TAP", 0x1FF00000000#41, 0x10300000000#41⟩,
  ⟨"WR.H_TAP", 0x1FF00000000#41, 0x14300000000#41⟩,
  ⟨"WR.W_TAP", 0x1FF00000000#41, 0x18300000000#41⟩,
  ⟨"WR.B_STATUS", 0x1FF00000000#41, 0x10400000000#41⟩,
  ⟨"WR.H_STATUS", 0x1FF00000000#41, 0x14400000000#41⟩,
  ⟨"WR.W_STATUS", 0x1FF00000000#41, 0x18400000000#41⟩]

/-- The write rows of the unmapped selectors. -/
def writeUnmappedRows : List TableRow := [
  ⟨"WR.B_UNMAPPED_5..5", 0x1FF00000000#41, 0x10500000000#41⟩,
  ⟨"WR.H_UNMAPPED_5..5", 0x1FF00000000#41, 0x14500000000#41⟩,
  ⟨"WR.W_UNMAPPED_5..5", 0x1FF00000000#41, 0x18500000000#41⟩,
  ⟨"WR.B_UNMAPPED_6..7", 0x1FE00000000#41, 0x10600000000#41⟩,
  ⟨"WR.H_UNMAPPED_6..7", 0x1FE00000000#41, 0x14600000000#41⟩,
  ⟨"WR.W_UNMAPPED_6..7", 0x1FE00000000#41, 0x18600000000#41⟩,
  ⟨"WR.B_UNMAPPED_8..15", 0x1F800000000#41, 0x10800000000#41⟩,
  ⟨"WR.H_UNMAPPED_8..15", 0x1F800000000#41, 0x14800000000#41⟩,
  ⟨"WR.W_UNMAPPED_8..15", 0x1F800000000#41, 0x18800000000#41⟩,
  ⟨"WR.B_UNMAPPED_16..31", 0x1F000000000#41, 0x11000000000#41⟩,
  ⟨"WR.H_UNMAPPED_16..31", 0x1F000000000#41, 0x15000000000#41⟩,
  ⟨"WR.W_UNMAPPED_16..31", 0x1F000000000#41, 0x19000000000#41⟩,
  ⟨"WR.B_UNMAPPED_32..63", 0x1E000000000#41, 0x12000000000#41⟩,
  ⟨"WR.H_UNMAPPED_32..63", 0x1E000000000#41, 0x16000000000#41⟩,
  ⟨"WR.W_UNMAPPED_32..63", 0x1E000000000#41, 0x1A000000000#41⟩]

/-- The read rows of the five registers. -/
def readRows : List TableRow := [
  ⟨"RD.B_ENABLE", 0x1FF00000000#41, 0x00000000000#41⟩,
  ⟨"RD.H_ENABLE", 0x1FF00000000#41, 0x04000000000#41⟩,
  ⟨"RD.W_ENABLE", 0x1FF00000000#41, 0x08000000000#41⟩,
  ⟨"RD.B_START", 0x1FF00000000#41, 0x00100000000#41⟩,
  ⟨"RD.H_START", 0x1FF00000000#41, 0x04100000000#41⟩,
  ⟨"RD.W_START", 0x1FF00000000#41, 0x08100000000#41⟩,
  ⟨"RD.B_COUNTDOWN", 0x1FF00000000#41, 0x00200000000#41⟩,
  ⟨"RD.H_COUNTDOWN", 0x1FF00000000#41, 0x04200000000#41⟩,
  ⟨"RD.W_COUNTDOWN", 0x1FF00000000#41, 0x08200000000#41⟩,
  ⟨"RD.B_TAP", 0x1FF00000000#41, 0x00300000000#41⟩,
  ⟨"RD.H_TAP", 0x1FF00000000#41, 0x04300000000#41⟩,
  ⟨"RD.W_TAP", 0x1FF00000000#41, 0x08300000000#41⟩,
  ⟨"RD.B_STATUS", 0x1FF00000000#41, 0x00400000000#41⟩,
  ⟨"RD.H_STATUS", 0x1FF00000000#41, 0x04400000000#41⟩,
  ⟨"RD.W_STATUS", 0x1FF00000000#41, 0x08400000000#41⟩]

/-- The read rows of the unmapped selectors. -/
def readUnmappedRows : List TableRow := [
  ⟨"RD.B_UNMAPPED_5..5", 0x1FF00000000#41, 0x00500000000#41⟩,
  ⟨"RD.H_UNMAPPED_5..5", 0x1FF00000000#41, 0x04500000000#41⟩,
  ⟨"RD.W_UNMAPPED_5..5", 0x1FF00000000#41, 0x08500000000#41⟩,
  ⟨"RD.B_UNMAPPED_6..7", 0x1FE00000000#41, 0x00600000000#41⟩,
  ⟨"RD.H_UNMAPPED_6..7", 0x1FE00000000#41, 0x04600000000#41⟩,
  ⟨"RD.W_UNMAPPED_6..7", 0x1FE00000000#41, 0x08600000000#41⟩,
  ⟨"RD.B_UNMAPPED_8..15", 0x1F800000000#41, 0x00800000000#41⟩,
  ⟨"RD.H_UNMAPPED_8..15", 0x1F800000000#41, 0x04800000000#41⟩,
  ⟨"RD.W_UNMAPPED_8..15", 0x1F800000000#41, 0x08800000000#41⟩,
  ⟨"RD.B_UNMAPPED_16..31", 0x1F000000000#41, 0x01000000000#41⟩,
  ⟨"RD.H_UNMAPPED_16..31", 0x1F000000000#41, 0x05000000000#41⟩,
  ⟨"RD.W_UNMAPPED_16..31", 0x1F000000000#41, 0x09000000000#41⟩,
  ⟨"RD.B_UNMAPPED_32..63", 0x1E000000000#41, 0x02000000000#41⟩,
  ⟨"RD.H_UNMAPPED_32..63", 0x1E000000000#41, 0x06000000000#41⟩,
  ⟨"RD.W_UNMAPPED_32..63", 0x1E000000000#41, 0x0A000000000#41⟩]

/-- The 60 transaction rows (R67). -/
def opcodeTable : List TableRow :=
  writeRows ++ writeUnmappedRows ++ readRows ++ readUnmappedRows

/-- The table's name of an instruction. -/
def Instr.mnemonic : Instr → String
  | .wrBEnable _ => "WR.B_ENABLE"
  | .wrHEnable _ => "WR.H_ENABLE"
  | .wrWEnable _ => "WR.W_ENABLE"
  | .wrBStart _ => "WR.B_START"
  | .wrHStart _ => "WR.H_START"
  | .wrWStart _ => "WR.W_START"
  | .wrBCountdown _ => "WR.B_COUNTDOWN"
  | .wrHCountdown _ => "WR.H_COUNTDOWN"
  | .wrWCountdown _ => "WR.W_COUNTDOWN"
  | .wrBTap _ => "WR.B_TAP"
  | .wrHTap _ => "WR.H_TAP"
  | .wrWTap _ => "WR.W_TAP"
  | .wrBStatus _ => "WR.B_STATUS"
  | .wrHStatus _ => "WR.H_STATUS"
  | .wrWStatus _ => "WR.W_STATUS"
  | .wrBUnmapped5 _ => "WR.B_UNMAPPED_5..5"
  | .wrHUnmapped5 _ => "WR.H_UNMAPPED_5..5"
  | .wrWUnmapped5 _ => "WR.W_UNMAPPED_5..5"
  | .wrBUnmapped6To7 _ _ => "WR.B_UNMAPPED_6..7"
  | .wrHUnmapped6To7 _ _ => "WR.H_UNMAPPED_6..7"
  | .wrWUnmapped6To7 _ _ => "WR.W_UNMAPPED_6..7"
  | .wrBUnmapped8To15 _ _ => "WR.B_UNMAPPED_8..15"
  | .wrHUnmapped8To15 _ _ => "WR.H_UNMAPPED_8..15"
  | .wrWUnmapped8To15 _ _ => "WR.W_UNMAPPED_8..15"
  | .wrBUnmapped16To31 _ _ => "WR.B_UNMAPPED_16..31"
  | .wrHUnmapped16To31 _ _ => "WR.H_UNMAPPED_16..31"
  | .wrWUnmapped16To31 _ _ => "WR.W_UNMAPPED_16..31"
  | .wrBUnmapped32To63 _ _ => "WR.B_UNMAPPED_32..63"
  | .wrHUnmapped32To63 _ _ => "WR.H_UNMAPPED_32..63"
  | .wrWUnmapped32To63 _ _ => "WR.W_UNMAPPED_32..63"
  | .rdBEnable => "RD.B_ENABLE"
  | .rdHEnable => "RD.H_ENABLE"
  | .rdWEnable => "RD.W_ENABLE"
  | .rdBStart => "RD.B_START"
  | .rdHStart => "RD.H_START"
  | .rdWStart => "RD.W_START"
  | .rdBCountdown => "RD.B_COUNTDOWN"
  | .rdHCountdown => "RD.H_COUNTDOWN"
  | .rdWCountdown => "RD.W_COUNTDOWN"
  | .rdBTap => "RD.B_TAP"
  | .rdHTap => "RD.H_TAP"
  | .rdWTap => "RD.W_TAP"
  | .rdBStatus => "RD.B_STATUS"
  | .rdHStatus => "RD.H_STATUS"
  | .rdWStatus => "RD.W_STATUS"
  | .rdBUnmapped5 => "RD.B_UNMAPPED_5..5"
  | .rdHUnmapped5 => "RD.H_UNMAPPED_5..5"
  | .rdWUnmapped5 => "RD.W_UNMAPPED_5..5"
  | .rdBUnmapped6To7 _ => "RD.B_UNMAPPED_6..7"
  | .rdHUnmapped6To7 _ => "RD.H_UNMAPPED_6..7"
  | .rdWUnmapped6To7 _ => "RD.W_UNMAPPED_6..7"
  | .rdBUnmapped8To15 _ => "RD.B_UNMAPPED_8..15"
  | .rdHUnmapped8To15 _ => "RD.H_UNMAPPED_8..15"
  | .rdWUnmapped8To15 _ => "RD.W_UNMAPPED_8..15"
  | .rdBUnmapped16To31 _ => "RD.B_UNMAPPED_16..31"
  | .rdHUnmapped16To31 _ => "RD.H_UNMAPPED_16..31"
  | .rdWUnmapped16To31 _ => "RD.W_UNMAPPED_16..31"
  | .rdBUnmapped32To63 _ => "RD.B_UNMAPPED_32..63"
  | .rdHUnmapped32To63 _ => "RD.H_UNMAPPED_32..63"
  | .rdWUnmapped32To63 _ => "RD.W_UNMAPPED_32..63"
  | .idle => "IDLE"
  | .reset => "RESET"

/-! ## The table's bit numbering -/

/-- The cycle input whose bits, numbered as `opcode_table.json` numbers them, are `w`. A row of at most 8 bits is an event
row, a pattern over `(reset, req_valid)` with `req_valid` bit 0 and `reset` bit 1 (R67); its transaction, if `req_valid` is
1, is the word of zeros. A longer row is a transaction word, bit 0 of `w` being `T[0]` (log entry 9). -/
def inputOfTableWord (nbits w : Nat) : CycleInput :=
  if nbits ≤ 8 then
    ⟨w.testBit 1, if w.testBit 0 then some 0#41 else none⟩
  else ⟨false, some (BitVec.ofNat 41 w)⟩

/-- What the decoder reads from an instruction numbered as the table numbers it. -/
def decodeTableWord (nbits w : Nat) : Option Instr :=
  (decodeInput (inputOfTableWord nbits w)).toOption

end Sys2Proof
end

