-- ==== Sys2Proof/Machine/Operands.lean ====
section
/-!
DEFINITION. The operand forms: the zero extension of a written value (`20_memory.md` R45), the lanes a COUNTDOWN write
replaces (R46), the narrowing of read data (R47), and the tap code (`00_scope.md` R6).
-/

namespace Sys2Proof.Machine

/-- `TAP_CODE` (R6, R34, D28): the one value a TAP write must carry. -/
def tapCode : Word := 0x0000ABCD#32

/-- `zext_32(v)` (R9, R45). -/
def zext32 {n : Nat} (v : BitVec n) : Word := v.setWidth 32

/-- The register after a write of width `w`: the lanes the width reaches take the low bits of `v`, "the other lanes retain
their prior bits" (R46). -/
def mergeLanes (w : Width) (old v : Word) : Word :=
  match w with
  | .byte => (old.extractLsb' 8 24 ++ v.extractLsb' 0 8 : BitVec (24 + 8))
  | .half => (old.extractLsb' 16 16 ++ v.extractLsb' 0 16 : BitVec (16 + 16))
  | .word => v

/-- `rdata = zext_32(value[w-1:0])` (R47). -/
def narrow (w : Width) (value : Word) : Word :=
  match w with
  | .byte => zext32 (value.extractLsb' 0 8)
  | .half => zext32 (value.extractLsb' 0 16)
  | .word => value

end Sys2Proof.Machine
end

