-- ==== Sys2Proof/Machine/State.lean ====
section
/-!
DEFINITION. The state of the WDT core: the five fields of the spec's record `WatchdogState` (`10_state.md` R20), and the
model's own two, the read-data output of the last cycle and the host's inputs still to come. Reset values: R35.
-/

namespace Sys2Proof.Machine

/-- Why a step stops with a fault. The type has no constructor: "There are no exceptions or fatal errors in this model"
(R160), so no meaning raises one. Nothing is safe or unsafe about it, because nothing can stop a run. -/
inductive Fault where
deriving DecidableEq, Repr

/-- Why a step has no meaning. -/
inductive Refusal where
  /-- An instruction without a meaning, rejected by its arm of `exec` only. Safe. No arm does so: every row is modelled. -/
  | notModelled (mnemonic : String)
deriving DecidableEq, Repr

/-- The state between two clock cycles. -/
structure State where
  /-- "watchdog is armed to respond to START/TAP/countdown" (R23). -/
  enabled : Bool
  /-- "countdown is actively running" (R24); not cleared by expiry. -/
  started : Bool
  /-- `countdown_configured`, the reload value, the storage behind the bus register COUNTDOWN (R21, R32). -/
  countdownConfigured : Word
  /-- `countdown_remaining`, the live counter, not readable over the bus (R22, R36). -/
  countdownRemaining : Word
  /-- `timeout_pending`, the sticky fault flag, equal to the interrupt line (R25, R163). -/
  timeoutPending : Bool
  /-- `rsp_rdata` of the last cycle: its read data, or 0 when it was no read (R75). The model's own field (log entry 3). -/
  rdata : Word
  /-- The cycle inputs the host will present, next one first (R61). The model's own field (log entry 1). -/
  inputs : List CycleInput
deriving DecidableEq, Repr

/-- The state right after reset, `S0` (R35, R194), with no read data and no input waiting. -/
def State.reset : State where
  enabled := false
  started := false
  countdownConfigured := 0#32
  countdownRemaining := 0#32
  timeoutPending := false
  rdata := 0#32
  inputs := []

end Sys2Proof.Machine
end

