-- ==== Sys2Proof/Machine/Flags.lean ====
section
/-!
DEFINITION. Everything computed from the state without storage of its own: `counter_active` (`10_state.md` R26), the STATUS
packing (R33), the interrupt line (`60_exceptions.md` R163), and the condition of a valid tap (`40_register_writes.md` R86).
-/

namespace Sys2Proof.Machine

/-- `counter_active = started && countdown_remaining > 0` (R26). -/
def counterActive (s : State) : Bool :=
  s.started && decide (0 < s.countdownRemaining.toNat)

/-- The interrupt output: "asserted exactly when timeout_pending is true" (R163, R122). -/
def irq (s : State) : Bool := s.timeoutPending

/-- The 32 bit value of STATUS: `zext_32(act ++ timeout_pending ++ started ++ enabled)`, bits 31 to 4 zero (R33, R104). -/
def statusWord (s : State) : Word :=
  zext32 (BitVec.ofBool (counterActive s) ++ (BitVec.ofBool s.timeoutPending ++
    (BitVec.ofBool s.started ++ BitVec.ofBool s.enabled)))

/-- "only has effect if enabled==true AND started==true" and the whole written value is the tap code (R86, R34). -/
def validTap (v : Word) (s : State) : Bool :=
  s.enabled && s.started && (v == tapCode)

/-- The zero-reload state `started && countdown_remaining == 0 && !timeout_pending` (R114). -/
def zeroReload (s : State) : Bool :=
  s.started && (s.countdownRemaining == 0#32) && !s.timeoutPending

end Sys2Proof.Machine
end

