-- ==== Sys2Proof/Machine/Ops.lean ====
section
/-!
DEFINITION. The named operations of the core: the writers of one field, `Tick` (`42_tick_countdown.md` R110 to R115),
`Reset` (R118), the register writes and reads (`40_register_writes.md` R80, `41_register_reads.md` R100), `Access` (R119),
and `Cycle` (R120), the one place where reset, tick and access are ordered.
The block takes no exception and returns from none (`60_exceptions.md` R160, R169): what stands for taking one is the expiry
inside `tickWith` (R112), and what stands for returning from one is `writeTap` (R171).
-/

namespace Sys2Proof.Machine

/-! ## Writers of one field -/

def State.setEnabled (b : Bool) (s : State) : State := { s with enabled := b }

def State.setStarted (b : Bool) (s : State) : State := { s with started := b }

def State.setConfigured (w : Word) (s : State) : State := { s with countdownConfigured := w }

def State.setRemaining (w : Word) (s : State) : State := { s with countdownRemaining := w }

def State.setTimeout (b : Bool) (s : State) : State := { s with timeoutPending := b }

def State.setRdata (w : Word) (s : State) : State := { s with rdata := w }

def State.setInputs (l : List CycleInput) (s : State) : State := { s with inputs := l }

/-! ## The host's inputs -/

/-- What the host presents in the next cycle: the first input waiting, else nothing (R61; log entry 1). -/
def nextInput (s : State) : CycleInput :=
  match s.inputs with
  | [] => ⟨false, none⟩
  | c :: _ => c

/-- The state with that input taken: each presentation is one event (R57). -/
def takeInput (s : State) : State := s.setInputs s.inputs.tail

/-- The state in which the host presents `c` next, and then what it would have presented. -/
def presentInput (c : CycleInput) (s : State) : State := s.setInputs (c :: s.inputs)

/-! ## Tick and Reset -/

/-- Reload: `countdown_remaining <- countdown_configured` (R82, R86). -/
def reload (s : State) : State := s.setRemaining s.countdownConfigured

/-- `Tick(S)` (R111): the decrement, the expiry when it reaches zero (R112), the clamp (R113), and the zero-reload state,
where the parameter `ZERO_RELOAD_EXPIRES` decides (R114). -/
def tickWith (zeroReloadExpires : Bool) (s : State) : State :=
  if counterActive s then
    let s' := s.setRemaining (s.countdownRemaining - 1#32)
    if s'.countdownRemaining = 0#32 then s'.setTimeout true else s'
  else if zeroReload s && zeroReloadExpires then s.setTimeout true
  else s

/-- The tick of this hardware, whatever its parameter is. -/
def tick (s : State) : State := tickWith Config.zeroReloadExpires s

/-- `Reset(S)` (R118, R191): the five fields at their reset values; the host's inputs are not the block's. -/
def resetAll (s : State) : State :=
  ((((s.setEnabled false).setStarted false).setConfigured 0#32).setRemaining 0#32).setTimeout false

/-! ## Register writes (R80) -/

/-- ENABLE (R81): nonzero enables; zero disables and stops, and "never clears timeout_pending". -/
def writeEnable (v : Word) (s : State) : State :=
  if v ≠ 0#32 then s.setEnabled true else (s.setEnabled false).setStarted false

/-- START (R82): no effect while `countdown_configured = 0`; otherwise enables, starts and reloads. The value is ignored. -/
def writeStart (_v : Word) (s : State) : State :=
  if s.countdownConfigured ≠ 0#32 then reload ((s.setEnabled true).setStarted true) else s

/-- COUNTDOWN (R83, R84, R85): the lanes of the width, nothing else. -/
def writeCountdown (w : Width) (v : Word) (s : State) : State :=
  s.setConfigured (mergeLanes w s.countdownConfigured v)

/-- TAP (R86): a valid tap reloads and clears `timeout_pending`; any other is a no-op. -/
def writeTap (v : Word) (s : State) : State :=
  if validTap v s then (reload s).setTimeout false else s

/-- STATUS (R87): no field changes. -/
def writeStatus (_v : Word) (s : State) : State := s

/-- An unmapped selector (R88): no field changes. -/
def writeUnmapped (_v : Word) (s : State) : State := s

/-- `RegWrite(S, addr, w, v)`: dispatch on the selector (R80). -/
def regWrite (addr : Nat) (w : Width) (v : Word) (s : State) : State :=
  match addr with
  | 0 => writeEnable v s
  | 1 => writeStart v s
  | 2 => writeCountdown w v s
  | 3 => writeTap v s
  | 4 => writeStatus v s
  | _ => writeUnmapped v s

/-! ## Register reads (R100) -/

/-- ENABLE is write-only: reads 0 (R105). -/
def readEnable (w : Width) (_s : State) : Word := narrow w 0#32

/-- START is write-only: reads 0 (R106). -/
def readStart (w : Width) (_s : State) : Word := narrow w 0#32

/-- COUNTDOWN returns the configured value at the access width, never the live counter (R101, R102, R103). -/
def readCountdown (w : Width) (s : State) : Word := narrow w s.countdownConfigured

/-- TAP is write-only: reads 0 (R107). -/
def readTap (w : Width) (_s : State) : Word := narrow w 0#32

/-- STATUS returns the packed bits (R104). -/
def readStatus (w : Width) (s : State) : Word := narrow w (statusWord s)

/-- An unmapped selector reads 0 (R108). -/
def readUnmapped (w : Width) (_s : State) : Word := narrow w 0#32

/-- `RegRead(S, addr, w)`: dispatch on the selector (R100). -/
def regRead (addr : Nat) (w : Width) (s : State) : Word :=
  match addr with
  | 0 => readEnable w s
  | 1 => readStart w s
  | 2 => readCountdown w s
  | 3 => readTap w s
  | 4 => readStatus w s
  | _ => readUnmapped w s

/-! ## Access and Cycle -/

/-- `Access(S, txn)` (R119), its read data left on the read-data output; a write returns 0 (R89). -/
def access (t : Txn) (s : State) : State :=
  match t.op with
  | .write => (regWrite t.addr.toNat t.width t.value s).setRdata 0#32
  | .read  => s.setRdata (regRead t.addr.toNat t.width s)

/-- A write cycle: the tick, then the write on the state the tick left (R120, D2); read data 0. -/
def writeCycle (write : State → State) (s : State) : State := (write (tick s)).setRdata 0#32

/-- A read cycle: the tick, then the read of the state the tick left (R121). -/
def readCycle (read : State → Word) (s : State) : State := (tick s).setRdata (read (tick s))

/-- An idle cycle: the tick alone; read data 0 (R61, R75). -/
def idleCycle (s : State) : State := (tick s).setRdata 0#32

/-- A reset cycle: no tick, the transaction dropped, read data 0 (R120, R192). -/
def resetCycle (s : State) : State := (resetAll s).setRdata 0#32

/-- The cycle of a word the decoder refuses: "hardware given 11 treats the cycle as an idle cycle" (R64, U6). -/
def refusedCycle (_e : DecodeError) (s : State) : State := idleCycle s

/-- `Cycle(S, in)` (R120) on the undecoded input, by selector and not by row of the operation map. -/
def cycle (c : CycleInput) (s : State) : State :=
  if c.reset then resetCycle s
  else
    match c.txn with
    | none => idleCycle s
    | some w =>
      match w.unpack with
      | .error e => refusedCycle e s
      | .ok t => access t (tick s)

end Sys2Proof.Machine
end

