-- ==== Sys2Proof/Machine/Events.lean ====
section
/-!
DEFINITION. The meanings of the two event rows, IDLE and RESET (`30_encoding.md` R67), and of a cycle whose word the decoder
refuses (R64).
-/

namespace Sys2Proof.Machine

/-- `IDLE` (also TICK): a cycle with no transaction, the tick only (R111, R120). -/
def execIdle (s : State) : Host.Outcome State Fault Refusal :=
  .next (idleCycle s)

/-- `RESET`: the state to `S0`, whatever transaction is presented dropped (R118, R192). -/
def execReset (s : State) : Host.Outcome State Fault Refusal :=
  .next (resetCycle s)

/-- A word with a refused width code: the cycle goes on as an idle cycle (R64, U6; log entry 6). -/
def execRefused (e : DecodeError) (s : State) : Host.Outcome State Fault Refusal :=
  .next (refusedCycle e s)

end Sys2Proof.Machine
end

