-- ==== Sys2Proof/Machine/Reads.lean ====
section
/-!
DEFINITION. The meanings of the register reads (`41_register_reads.md` R100 to R108), one per row of the table: one clock
cycle that ticks and then computes the read data from the state the tick left (R121).
-/

namespace Sys2Proof.Machine

/-- `RD.B_ENABLE`: returns 0 (R105). -/
def execRdBEnable (s : State) : Host.Outcome State Fault Refusal :=
  .next (readCycle (readEnable .byte) s)

/-- `RD.H_ENABLE`: returns 0 (R105). -/
def execRdHEnable (s : State) : Host.Outcome State Fault Refusal :=
  .next (readCycle (readEnable .half) s)

/-- `RD.W_ENABLE`: returns 0 (R105). -/
def execRdWEnable (s : State) : Host.Outcome State Fault Refusal :=
  .next (readCycle (readEnable .word) s)

/-- `RD.B_START`: returns 0 (R106). -/
def execRdBStart (s : State) : Host.Outcome State Fault Refusal :=
  .next (readCycle (readStart .byte) s)

/-- `RD.H_START`: returns 0 (R106). -/
def execRdHStart (s : State) : Host.Outcome State Fault Refusal :=
  .next (readCycle (readStart .half) s)

/-- `RD.W_START`: returns 0 (R106). -/
def execRdWStart (s : State) : Host.Outcome State Fault Refusal :=
  .next (readCycle (readStart .word) s)

/-- `RD.B_COUNTDOWN`: reload bits 7:0 (R101). -/
def execRdBCountdown (s : State) : Host.Outcome State Fault Refusal :=
  .next (readCycle (readCountdown .byte) s)

/-- `RD.H_COUNTDOWN`: reload bits 15:0 (R102). -/
def execRdHCountdown (s : State) : Host.Outcome State Fault Refusal :=
  .next (readCycle (readCountdown .half) s)

/-- `RD.W_COUNTDOWN`: reload bits 31:0 (R103). -/
def execRdWCountdown (s : State) : Host.Outcome State Fault Refusal :=
  .next (readCycle (readCountdown .word) s)

/-- `RD.B_TAP`: returns 0 (R107). -/
def execRdBTap (s : State) : Host.Outcome State Fault Refusal :=
  .next (readCycle (readTap .byte) s)

/-- `RD.H_TAP`: returns 0 (R107). -/
def execRdHTap (s : State) : Host.Outcome State Fault Refusal :=
  .next (readCycle (readTap .half) s)

/-- `RD.W_TAP`: returns 0 (R107). -/
def execRdWTap (s : State) : Host.Outcome State Fault Refusal :=
  .next (readCycle (readTap .word) s)

/-- `RD.B_STATUS`: the status bits (R104). -/
def execRdBStatus (s : State) : Host.Outcome State Fault Refusal :=
  .next (readCycle (readStatus .byte) s)

/-- `RD.H_STATUS`: the status bits (R104). -/
def execRdHStatus (s : State) : Host.Outcome State Fault Refusal :=
  .next (readCycle (readStatus .half) s)

/-- `RD.W_STATUS`: the status bits (R104). -/
def execRdWStatus (s : State) : Host.Outcome State Fault Refusal :=
  .next (readCycle (readStatus .word) s)

/-- `RD.B_UNMAPPED_5..5`: returns 0 (R108). -/
def execRdBUnmapped5 (s : State) : Host.Outcome State Fault Refusal :=
  .next (readCycle (readUnmapped .byte) s)

/-- `RD.H_UNMAPPED_5..5`: returns 0 (R108). -/
def execRdHUnmapped5 (s : State) : Host.Outcome State Fault Refusal :=
  .next (readCycle (readUnmapped .half) s)

/-- `RD.W_UNMAPPED_5..5`: returns 0 (R108). -/
def execRdWUnmapped5 (s : State) : Host.Outcome State Fault Refusal :=
  .next (readCycle (readUnmapped .word) s)

/-- `RD.B_UNMAPPED_6..7`: returns 0 (R108). -/
def execRdBUnmapped6To7 (_addr : Addr) (s : State) : Host.Outcome State Fault Refusal :=
  .next (readCycle (readUnmapped .byte) s)

/-- `RD.H_UNMAPPED_6..7`: returns 0 (R108). -/
def execRdHUnmapped6To7 (_addr : Addr) (s : State) : Host.Outcome State Fault Refusal :=
  .next (readCycle (readUnmapped .half) s)

/-- `RD.W_UNMAPPED_6..7`: returns 0 (R108). -/
def execRdWUnmapped6To7 (_addr : Addr) (s : State) : Host.Outcome State Fault Refusal :=
  .next (readCycle (readUnmapped .word) s)

/-- `RD.B_UNMAPPED_8..15`: returns 0 (R108). -/
def execRdBUnmapped8To15 (_addr : Addr) (s : State) : Host.Outcome State Fault Refusal :=
  .next (readCycle (readUnmapped .byte) s)

/-- `RD.H_UNMAPPED_8..15`: returns 0 (R108). -/
def execRdHUnmapped8To15 (_addr : Addr) (s : State) : Host.Outcome State Fault Refusal :=
  .next (readCycle (readUnmapped .half) s)

/-- `RD.W_UNMAPPED_8..15`: returns 0 (R108). -/
def execRdWUnmapped8To15 (_addr : Addr) (s : State) : Host.Outcome State Fault Refusal :=
  .next (readCycle (readUnmapped .word) s)

/-- `RD.B_UNMAPPED_16..31`: returns 0 (R108). -/
def execRdBUnmapped16To31 (_addr : Addr) (s : State) : Host.Outcome State Fault Refusal :=
  .next (readCycle (readUnmapped .byte) s)

/-- `RD.H_UNMAPPED_16..31`: returns 0 (R108). -/
def execRdHUnmapped16To31 (_addr : Addr) (s : State) : Host.Outcome State Fault Refusal :=
  .next (readCycle (readUnmapped .half) s)

/-- `RD.W_UNMAPPED_16..31`: returns 0 (R108). -/
def execRdWUnmapped16To31 (_addr : Addr) (s : State) : Host.Outcome State Fault Refusal :=
  .next (readCycle (readUnmapped .word) s)

/-- `RD.B_UNMAPPED_32..63`: returns 0 (R108). -/
def execRdBUnmapped32To63 (_addr : Addr) (s : State) : Host.Outcome State Fault Refusal :=
  .next (readCycle (readUnmapped .byte) s)

/-- `RD.H_UNMAPPED_32..63`: returns 0 (R108). -/
def execRdHUnmapped32To63 (_addr : Addr) (s : State) : Host.Outcome State Fault Refusal :=
  .next (readCycle (readUnmapped .half) s)

/-- `RD.W_UNMAPPED_32..63`: returns 0 (R108). -/
def execRdWUnmapped32To63 (_addr : Addr) (s : State) : Host.Outcome State Fault Refusal :=
  .next (readCycle (readUnmapped .word) s)

end Sys2Proof.Machine
end

