-- ==== Sys2Proof/Machine/Writes.lean ====
section
/-!
DEFINITION. The meanings of the register writes (`40_register_writes.md` R80 to R90), one per row of the table: one clock
cycle that ticks and then applies the write to the state the tick left (R120).
-/

namespace Sys2Proof.Machine

/-- `WR.B_ENABLE`: enable or disable (R81). -/
def execWrBEnable (v : Byte) (s : State) : Host.Outcome State Fault Refusal :=
  .next (writeCycle (writeEnable (zext32 v)) s)

/-- `WR.H_ENABLE`: enable or disable (R81). -/
def execWrHEnable (v : Half) (s : State) : Host.Outcome State Fault Refusal :=
  .next (writeCycle (writeEnable (zext32 v)) s)

/-- `WR.W_ENABLE`: enable or disable (R81). -/
def execWrWEnable (v : Word) (s : State) : Host.Outcome State Fault Refusal :=
  .next (writeCycle (writeEnable (zext32 v)) s)

/-- `WR.B_START`: start and reload (R82). -/
def execWrBStart (v : Byte) (s : State) : Host.Outcome State Fault Refusal :=
  .next (writeCycle (writeStart (zext32 v)) s)

/-- `WR.H_START`: start and reload (R82). -/
def execWrHStart (v : Half) (s : State) : Host.Outcome State Fault Refusal :=
  .next (writeCycle (writeStart (zext32 v)) s)

/-- `WR.W_START`: start and reload (R82). -/
def execWrWStart (v : Word) (s : State) : Host.Outcome State Fault Refusal :=
  .next (writeCycle (writeStart (zext32 v)) s)

/-- `WR.B_COUNTDOWN`: reload bits 7:0 (R83). -/
def execWrBCountdown (v : Byte) (s : State) : Host.Outcome State Fault Refusal :=
  .next (writeCycle (writeCountdown .byte (zext32 v)) s)

/-- `WR.H_COUNTDOWN`: reload bits 15:0 (R84). -/
def execWrHCountdown (v : Half) (s : State) : Host.Outcome State Fault Refusal :=
  .next (writeCycle (writeCountdown .half (zext32 v)) s)

/-- `WR.W_COUNTDOWN`: reload bits 31:0 (R85). -/
def execWrWCountdown (v : Word) (s : State) : Host.Outcome State Fault Refusal :=
  .next (writeCycle (writeCountdown .word (zext32 v)) s)

/-- `WR.B_TAP`: tap (R86). -/
def execWrBTap (v : Byte) (s : State) : Host.Outcome State Fault Refusal :=
  .next (writeCycle (writeTap (zext32 v)) s)

/-- `WR.H_TAP`: tap (R86). -/
def execWrHTap (v : Half) (s : State) : Host.Outcome State Fault Refusal :=
  .next (writeCycle (writeTap (zext32 v)) s)

/-- `WR.W_TAP`: tap (R86). -/
def execWrWTap (v : Word) (s : State) : Host.Outcome State Fault Refusal :=
  .next (writeCycle (writeTap (zext32 v)) s)

/-- `WR.B_STATUS`: no effect (R87). -/
def execWrBStatus (v : Byte) (s : State) : Host.Outcome State Fault Refusal :=
  .next (writeCycle (writeStatus (zext32 v)) s)

/-- `WR.H_STATUS`: no effect (R87). -/
def execWrHStatus (v : Half) (s : State) : Host.Outcome State Fault Refusal :=
  .next (writeCycle (writeStatus (zext32 v)) s)

/-- `WR.W_STATUS`: no effect (R87). -/
def execWrWStatus (v : Word) (s : State) : Host.Outcome State Fault Refusal :=
  .next (writeCycle (writeStatus (zext32 v)) s)

/-- `WR.B_UNMAPPED_5..5`: no effect (R88). -/
def execWrBUnmapped5 (v : Byte) (s : State) : Host.Outcome State Fault Refusal :=
  .next (writeCycle (writeUnmapped (zext32 v)) s)

/-- `WR.H_UNMAPPED_5..5`: no effect (R88). -/
def execWrHUnmapped5 (v : Half) (s : State) : Host.Outcome State Fault Refusal :=
  .next (writeCycle (writeUnmapped (zext32 v)) s)

/-- `WR.W_UNMAPPED_5..5`: no effect (R88). -/
def execWrWUnmapped5 (v : Word) (s : State) : Host.Outcome State Fault Refusal :=
  .next (writeCycle (writeUnmapped (zext32 v)) s)

/-- `WR.B_UNMAPPED_6..7`: no effect (R88). -/
def execWrBUnmapped6To7 (_addr : Addr) (v : Byte) (s : State) : Host.Outcome State Fault Refusal :=
  .next (writeCycle (writeUnmapped (zext32 v)) s)

/-- `WR.H_UNMAPPED_6..7`: no effect (R88). -/
def execWrHUnmapped6To7 (_addr : Addr) (v : Half) (s : State) : Host.Outcome State Fault Refusal :=
  .next (writeCycle (writeUnmapped (zext32 v)) s)

/-- `WR.W_UNMAPPED_6..7`: no effect (R88). -/
def execWrWUnmapped6To7 (_addr : Addr) (v : Word) (s : State) : Host.Outcome State Fault Refusal :=
  .next (writeCycle (writeUnmapped (zext32 v)) s)

/-- `WR.B_UNMAPPED_8..15`: no effect (R88). -/
def execWrBUnmapped8To15 (_addr : Addr) (v : Byte) (s : State) : Host.Outcome State Fault Refusal :=
  .next (writeCycle (writeUnmapped (zext32 v)) s)

/-- `WR.H_UNMAPPED_8..15`: no effect (R88). -/
def execWrHUnmapped8To15 (_addr : Addr) (v : Half) (s : State) : Host.Outcome State Fault Refusal :=
  .next (writeCycle (writeUnmapped (zext32 v)) s)

/-- `WR.W_UNMAPPED_8..15`: no effect (R88). -/
def execWrWUnmapped8To15 (_addr : Addr) (v : Word) (s : State) : Host.Outcome State Fault Refusal :=
  .next (writeCycle (writeUnmapped (zext32 v)) s)

/-- `WR.B_UNMAPPED_16..31`: no effect (R88). -/
def execWrBUnmapped16To31 (_addr : Addr) (v : Byte) (s : State) : Host.Outcome State Fault Refusal :=
  .next (writeCycle (writeUnmapped (zext32 v)) s)

/-- `WR.H_UNMAPPED_16..31`: no effect (R88). -/
def execWrHUnmapped16To31 (_addr : Addr) (v : Half) (s : State) : Host.Outcome State Fault Refusal :=
  .next (writeCycle (writeUnmapped (zext32 v)) s)

/-- `WR.W_UNMAPPED_16..31`: no effect (R88). -/
def execWrWUnmapped16To31 (_addr : Addr) (v : Word) (s : State) : Host.Outcome State Fault Refusal :=
  .next (writeCycle (writeUnmapped (zext32 v)) s)

/-- `WR.B_UNMAPPED_32..63`: no effect (R88). -/
def execWrBUnmapped32To63 (_addr : Addr) (v : Byte) (s : State) : Host.Outcome State Fault Refusal :=
  .next (writeCycle (writeUnmapped (zext32 v)) s)

/-- `WR.H_UNMAPPED_32..63`: no effect (R88). -/
def execWrHUnmapped32To63 (_addr : Addr) (v : Half) (s : State) : Host.Outcome State Fault Refusal :=
  .next (writeCycle (writeUnmapped (zext32 v)) s)

/-- `WR.W_UNMAPPED_32..63`: no effect (R88). -/
def execWrWUnmapped32To63 (_addr : Addr) (v : Word) (s : State) : Host.Outcome State Fault Refusal :=
  .next (writeCycle (writeUnmapped (zext32 v)) s)

end Sys2Proof.Machine
end

