-- ==== Sys2Proof/Machine/Dispatch.lean ====
section
/-! DEFINITION. One arm per row of the operation map (`30_encoding.md` R67): each instruction is one direct call of its meaning. -/

namespace Sys2Proof.Machine

def exec (i : Instr) (s : State) : Host.Outcome State Fault Refusal :=
  match i with
  | .wrBEnable v => Sys2Proof.Machine.execWrBEnable v s
  | .wrHEnable v => Sys2Proof.Machine.execWrHEnable v s
  | .wrWEnable v => Sys2Proof.Machine.execWrWEnable v s
  | .wrBStart v => Sys2Proof.Machine.execWrBStart v s
  | .wrHStart v => Sys2Proof.Machine.execWrHStart v s
  | .wrWStart v => Sys2Proof.Machine.execWrWStart v s
  | .wrBCountdown v => Sys2Proof.Machine.execWrBCountdown v s
  | .wrHCountdown v => Sys2Proof.Machine.execWrHCountdown v s
  | .wrWCountdown v => Sys2Proof.Machine.execWrWCountdown v s
  | .wrBTap v => Sys2Proof.Machine.execWrBTap v s
  | .wrHTap v => Sys2Proof.Machine.execWrHTap v s
  | .wrWTap v => Sys2Proof.Machine.execWrWTap v s
  | .wrBStatus v => Sys2Proof.Machine.execWrBStatus v s
  | .wrHStatus v => Sys2Proof.Machine.execWrHStatus v s
  | .wrWStatus v => Sys2Proof.Machine.execWrWStatus v s
  | .wrBUnmapped5 v => Sys2Proof.Machine.execWrBUnmapped5 v s
  | .wrHUnmapped5 v => Sys2Proof.Machine.execWrHUnmapped5 v s
  | .wrWUnmapped5 v => Sys2Proof.Machine.execWrWUnmapped5 v s
  | .wrBUnmapped6To7 addr v => Sys2Proof.Machine.execWrBUnmapped6To7 addr v s
  | .wrHUnmapped6To7 addr v => Sys2Proof.Machine.execWrHUnmapped6To7 addr v s
  | .wrWUnmapped6To7 addr v => Sys2Proof.Machine.execWrWUnmapped6To7 addr v s
  | .wrBUnmapped8To15 addr v => Sys2Proof.Machine.execWrBUnmapped8To15 addr v s
  | .wrHUnmapped8To15 addr v => Sys2Proof.Machine.execWrHUnmapped8To15 addr v s
  | .wrWUnmapped8To15 addr v => Sys2Proof.Machine.execWrWUnmapped8To15 addr v s
  | .wrBUnmapped16To31 addr v => Sys2Proof.Machine.execWrBUnmapped16To31 addr v s
  | .wrHUnmapped16To31 addr v => Sys2Proof.Machine.execWrHUnmapped16To31 addr v s
  | .wrWUnmapped16To31 addr v => Sys2Proof.Machine.execWrWUnmapped16To31 addr v s
  | .wrBUnmapped32To63 addr v => Sys2Proof.Machine.execWrBUnmapped32To63 addr v s
  | .wrHUnmapped32To63 addr v => Sys2Proof.Machine.execWrHUnmapped32To63 addr v s
  | .wrWUnmapped32To63 addr v => Sys2Proof.Machine.execWrWUnmapped32To63 addr v s
  | .rdBEnable => Sys2Proof.Machine.execRdBEnable s
  | .rdHEnable => Sys2Proof.Machine.execRdHEnable s
  | .rdWEnable => Sys2Proof.Machine.execRdWEnable s
  | .rdBStart => Sys2Proof.Machine.execRdBStart s
  | .rdHStart => Sys2Proof.Machine.execRdHStart s
  | .rdWStart => Sys2Proof.Machine.execRdWStart s
  | .rdBCountdown => Sys2Proof.Machine.execRdBCountdown s
  | .rdHCountdown => Sys2Proof.Machine.execRdHCountdown s
  | .rdWCountdown => Sys2Proof.Machine.execRdWCountdown s
  | .rdBTap => Sys2Proof.Machine.execRdBTap s
  | .rdHTap => Sys2Proof.Machine.execRdHTap s
  | .rdWTap => Sys2Proof.Machine.execRdWTap s
  | .rdBStatus => Sys2Proof.Machine.execRdBStatus s
  | .rdHStatus => Sys2Proof.Machine.execRdHStatus s
  | .rdWStatus => Sys2Proof.Machine.execRdWStatus s
  | .rdBUnmapped5 => Sys2Proof.Machine.execRdBUnmapped5 s
  | .rdHUnmapped5 => Sys2Proof.Machine.execRdHUnmapped5 s
  | .rdWUnmapped5 => Sys2Proof.Machine.execRdWUnmapped5 s
  | .rdBUnmapped6To7 addr => Sys2Proof.Machine.execRdBUnmapped6To7 addr s
  | .rdHUnmapped6To7 addr => Sys2Proof.Machine.execRdHUnmapped6To7 addr s
  | .rdWUnmapped6To7 addr => Sys2Proof.Machine.execRdWUnmapped6To7 addr s
  | .rdBUnmapped8To15 addr => Sys2Proof.Machine.execRdBUnmapped8To15 addr s
  | .rdHUnmapped8To15 addr => Sys2Proof.Machine.execRdHUnmapped8To15 addr s
  | .rdWUnmapped8To15 addr => Sys2Proof.Machine.execRdWUnmapped8To15 addr s
  | .rdBUnmapped16To31 addr => Sys2Proof.Machine.execRdBUnmapped16To31 addr s
  | .rdHUnmapped16To31 addr => Sys2Proof.Machine.execRdHUnmapped16To31 addr s
  | .rdWUnmapped16To31 addr => Sys2Proof.Machine.execRdWUnmapped16To31 addr s
  | .rdBUnmapped32To63 addr => Sys2Proof.Machine.execRdBUnmapped32To63 addr s
  | .rdHUnmapped32To63 addr => Sys2Proof.Machine.execRdHUnmapped32To63 addr s
  | .rdWUnmapped32To63 addr => Sys2Proof.Machine.execRdWUnmapped32To63 addr s
  | .idle => Sys2Proof.Machine.execIdle s
  | .reset => Sys2Proof.Machine.execReset s

end Sys2Proof.Machine
end

