-- ==== Sys2Proof/Machine/Step.lean ====
section
/-!
DEFINITION. One clock cycle: the input the host presents is taken, decoded (`30_encoding.md` R74) and executed
(`42_tick_countdown.md` R120). The block fetches nothing (`10_state.md` R37): what is "fetched" is the host's next input.
-/

namespace Sys2Proof.Machine

/-- One clock cycle of the core. -/
def step (s : State) : Host.Outcome State Fault Refusal :=
  match decodeInput (nextInput s) with
  | .ok i => exec i (takeInput s)
  | .error e => execRefused e (takeInput s)

/-- `s` with the host presenting, in the next cycle, the instruction whose bits are `w` as `opcode_table.json` numbers them,
and after it what it would have presented. -/
def State.withFetchWord (s : State) (nbits w : Nat) : State :=
  presentInput (inputOfTableWord nbits w) s

end Sys2Proof.Machine
end

