-- ==== Sys2Proof/Safety.lean ====
section
/-!
DEFINITION. The terms the claims use: the invariant of the reachable states (`43_state_machine.md` R131), reachability by
clock cycles, the primitive layer of `Tick`, `Access` and `Reset` in any order (`42_tick_countdown.md` R124), the control
states (R130), and the deadline in seconds (`70_reset_and_hazards.md` R210).
-/

namespace Sys2Proof.Safety

open Sys2Proof.Machine

/-! ## Reachable states of the hardware step -/

/-- "true only if enabled is true": `started` implies `enabled` (R131). -/
abbrev StartedEnabled (s : State) : Prop := s.started = true → s.enabled = true

/-- The states the hardware comes to from reset, whatever the host presents. -/
inductive Reachable : State → Prop where
  | reset (script : List CycleInput) : Reachable { State.reset with inputs := script }
  | step {s t : State} : Reachable s → Machine.step s = .next t → Reachable t

/-! ## The primitive layer (R124) -/

/-- One application of a primitive of the source's own model: it "errs toward unprovable", since it admits every order of
tick and access (R124, D30). -/
inductive Event where
  | tick
  | access (t : Txn)
  | reset
deriving DecidableEq, Repr

/-- A register write as an event, at a selector, a width and a value. -/
def wr (addr : Addr) (w : Width) (v : Word) : Event := .access ⟨.write, w, addr, v⟩

/-- The effect of one event. -/
def Event.apply (e : Event) (s : State) : State :=
  match e with
  | .tick => Machine.tick s
  | .access t => Machine.access t s
  | .reset => Machine.resetAll s

/-- The events in order, first one first. -/
def runEvents : List Event → State → State
  | [], s => s
  | e :: es, s => runEvents es (e.apply s)

/-- How many of the events are ticks. -/
def tickCount : List Event → Nat
  | [] => 0
  | .tick :: es => tickCount es + 1
  | _ :: es => tickCount es

/-- The event is a write to the selector. -/
def Event.writes (addr : Nat) (e : Event) : Bool :=
  match e with
  | .access t => t.op == .write && t.addr.toNat == addr
  | _ => false

/-- The value an event carries, 0 where it carries none. -/
def Event.value (e : Event) : Word :=
  match e with
  | .access t => t.value
  | _ => 0#32

/-- The event is a reset or, in this state, a valid tap: the two ways to clear the fault (R166). -/
def Event.clears (e : Event) (s : State) : Bool :=
  e == .reset || (e.writes 3 && validTap e.value s)

/-- The event is a START that takes effect in this state (R82). -/
def Event.restarts (e : Event) (s : State) : Bool := e.writes 1 && s.countdownConfigured != 0#32

/-- The event is none of those R116 excludes: an effective START, a valid TAP, a disable, a reset. -/
def Event.quiet (e : Event) (s : State) : Bool :=
  !(e.clears s) && !(e.writes 0 && e.value == 0#32) && !(e.restarts s)

/-- Every event of the sequence is quiet in the state it meets. -/
def quietRun : List Event → State → Bool
  | [], _ => true
  | e :: es, s => e.quiet s && quietRun es (e.apply s)

/-- No event of the sequence clears the fault in the state it meets. -/
def stickyRun : List Event → State → Bool
  | [], _ => true
  | e :: es, s => !(e.clears s) && stickyRun es (e.apply s)

/-- No event of the sequence is a reset, or a START that takes effect, in the state it meets (R173). -/
def restartFree : List Event → State → Bool
  | [], _ => true
  | e :: es, s => !(e == .reset) && !(e.restarts s) && restartFree es (e.apply s)

/-- `countdown_configured` is 0 in every state of the sequence: it "has never been set nonzero" (R137). -/
def neverConfigured : List Event → State → Bool
  | [], s => s.countdownConfigured == 0#32
  | e :: es, s => s.countdownConfigured == 0#32 && neverConfigured es (e.apply s)

/-! ## Control states (R130) -/

/-- The four control states the spec names. -/
inductive ControlState where
  | off
  | armed
  | running
  | expired
deriving DecidableEq, Repr

/-- The control state of a state; none where `started` holds without `enabled`, which no run from reset reaches (R131). -/
def controlState (s : State) : Option ControlState :=
  match s.enabled, s.started with
  | false, false => some .off
  | true, false => some .armed
  | true, true => some (if s.countdownRemaining = 0#32 then .expired else .running)
  | false, true => none

/-! ## Instructions as accesses -/

/-- The instruction is a write to the selector. -/
def writesTo (addr : Nat) (i : Instr) : Bool :=
  match i.txn with
  | some t => t.op == .write && t.addr.toNat == addr
  | none => false

/-- The instruction is a read, at any selector. -/
def isRead (i : Instr) : Bool :=
  match i.txn with
  | some t => t.op == .read
  | none => false

/-- The 32 bit value an instruction carries, 0 where it carries none. -/
def valueOf (i : Instr) : Word :=
  match i.txn with
  | some t => t.value
  | none => 0#32

/-! ## Time -/

/-- "A deadline of N counts lasts N / CLK_HZ seconds for whatever CLK_HZ the system supplies" (R210). -/
def deadlineSeconds (n : Nat) : Rat := n / Config.clkHz

end Sys2Proof.Safety
end

