-- ==== Sys2Proof/Certificates/Slice0/Obligations.lean ====
section
/-!
DEFINITION. The statements for the provers, from the numbered rules of spec/. Statements about `exec` and `step` rest on the
spec's decision D2 (tick before access, `42_tick_countdown.md` R120); statements about `tick`, `access`, `resetAll` and
`Event` are at the primitive level (R124) and do not.
-/

open Sys2Proof Sys2Proof.Machine Sys2Proof.Safety

/-- Decode of encode, for all 62 constructors (R62, R67, R74; the layout is decision D21). -/
def Obligations.DecodeOfEncode : Prop :=
  ∀ i : Instr, i.WellFormed → decodeInput (encode i) = .ok i

/-- Ignored bits are exactly those of R66 and R70, which rest on decision D8. -/
def Obligations.DecodeForgetsOnlyIgnoredBits : Prop :=
  ∀ (t u : TxnWord) (w : Width), Width.ofCode t.wc = some w →
    (decode t = decode u ↔
      t.rw = u.rw ∧ t.wc = u.wc ∧ t.addr = u.addr ∧
        (t.rw = 1#1 → ∀ k, k < w.bits → t.getLsbD k = u.getLsbD k))

/-- The decoder against the table's masks and patterns (R67, R74). -/
def Obligations.DecodeSelectsTheTableRow : Prop :=
  ∀ (t : TxnWord) (i : Instr), decode t = .ok i →
    i.WellFormed ∧ ∀ r ∈ opcodeTable, (r.hits t = true ↔ r.mnemonic = i.mnemonic)

/-- R74 and R64; wc = 11 reserved is decision D14. -/
def Obligations.DecodeIsTotal : Prop :=
  ∀ t : TxnWord,
    (t.wc = 0b11#2 ∧ decode t = .error .reservedWidthCode ∧ ∀ r ∈ opcodeTable, r.hits t = false) ∨
    (t.wc ≠ 0b11#2 ∧ (∃ i, decode t = .ok i) ∧ ∃! r, r ∈ opcodeTable ∧ r.hits t = true)

/-- Words of the vectors of 95_test_vectors.md. -/
def Obligations.SampleWordsDecode : Prop :=
  decode 0x14000000100#41 = .ok (.wrHEnable 0x0100#16) ∧
  decode 0x10100000001#41 = .ok (.wrBStart 1#8) ∧
  decode 0x102000000AA#41 = .ok (.wrBCountdown 0xAA#8) ∧
  decode 0x1420000BEEF#41 = .ok (.wrHCountdown 0xBEEF#16) ∧
  decode 0x182CAFEF00D#41 = .ok (.wrWCountdown 0xCAFEF00D#32) ∧
  decode 0x18200000009#41 = .ok (.wrWCountdown 9#32) ∧
  decode 0x102000001FF#41 = .ok (.wrBCountdown 0xFF#8) ∧
  decode 0x1430000ABCD#41 = .ok (.wrHTap 0xABCD#16) ∧
  decode 0x1831234ABCD#41 = .ok (.wrWTap 0x1234ABCD#32) ∧
  decode 0x103000000CD#41 = .ok (.wrBTap 0xCD#8) ∧
  decode 0x18400000000#41 = .ok (.wrWStatus 0#32) ∧
  decode 0x18500000001#41 = .ok (.wrWUnmapped5 1#32) ∧
  decode 0x13F000000FF#41 = .ok (.wrBUnmapped32To63 63#6 0xFF#8) ∧
  decode 0x04200000000#41 = .ok .rdHCountdown ∧
  decode 0x00200000000#41 = .ok .rdBCountdown ∧
  decode 0x08200000000#41 = .ok .rdWCountdown ∧
  decode 0x00400000000#41 = .ok .rdBStatus ∧
  decode 0x08000000000#41 = .ok .rdWEnable ∧
  decode 0x04100000000#41 = .ok .rdHStart ∧
  decode 0x00300000000#41 = .ok .rdBTap ∧
  decode 0x0BF00000000#41 = .ok (.rdWUnmapped32To63 63#6) ∧
  decode 0x1C30000ABCD#41 = .error .reservedWidthCode

/-- The per-instruction statements reach a run through this one (R61, R74). The list of inputs is log entry 1. -/
def Obligations.StepRunsDecodedInput : Prop :=
  ∀ (s : State) (i : Instr), decodeInput (nextInput s) = .ok i →
    i.WellFormed ∧ step s = exec i { s with inputs := s.inputs.tail } ∧
      nextInput s = s.inputs.headD ⟨false, none⟩

/-- R160, R161 and the closing paragraph of R179. -/
def Obligations.StepAlwaysAnswers : Prop :=
  ∀ s : State, ∃ t, step s = .next t ∧ t.inputs = s.inputs.tail

/-- The operation map of R67 against the dispatch by selector of R80 and R100, under R120. -/
def Obligations.StepIsOneCycle : Prop :=
  ∀ s : State, step s = .next (cycle (nextInput s) { s with inputs := s.inputs.tail })

/-- R120 per instruction. -/
def Obligations.ExecIsCycleOfEncoding : Prop :=
  ∀ (i : Instr) (s : State), i.WellFormed → exec i s = .next (cycle (encode i) s)

/-- R64: the decoder refuses, "hardware given 11 treats the cycle as an idle cycle" (decision D14, U6). -/
def Obligations.ReservedWidthCycleIdles : Prop :=
  ∀ (s : State) (t : TxnWord) (rest : List CycleInput), s.inputs = ⟨false, some t⟩ :: rest → t.wc = 0b11#2 →
    decodeInput (nextInput s) = .error .reservedWidthCode ∧ step s = exec .idle { s with inputs := rest }

/-- The inductive step of R131. -/
def Obligations.StepKeepsStartedEnabled : Prop :=
  ∀ s t : State, StartedEnabled s → step s = .next t → StartedEnabled t

/-- The base case of R131. -/
def Obligations.ResetSatisfiesStartedEnabled : Prop :=
  ∀ script : List CycleInput, StartedEnabled { State.reset with inputs := script }

/-- R131 and R132 over all runs of the hardware step. -/
def Obligations.ReachableStatusValues : Prop :=
  (∀ s, Reachable s → StartedEnabled s) ∧
  ∀ v : Word, (∃ s, Reachable s ∧ statusWord s = v) ↔ v ∈ [0#32, 1#32, 3#32, 4#32, 5#32, 7#32, 11#32, 15#32]

/-- R35 with its consequences read through the registers. -/
def Obligations.ResetLeavesS0 : Prop :=
  State.reset.enabled = false ∧ State.reset.started = false ∧ State.reset.countdownConfigured = 0#32 ∧
  State.reset.countdownRemaining = 0#32 ∧ State.reset.timeoutPending = false ∧
  irq State.reset = false ∧ counterActive State.reset = false ∧
  ∀ (addr : Nat) (w : Width), regRead addr w State.reset = 0#32

/-- R118, R191, R192. -/
def Obligations.ResetCycleResult : Prop :=
  (∀ s : State, exec .reset s = .next { State.reset with inputs := s.inputs }) ∧
  (∀ (s : State) (txn : Option TxnWord) (rest : List CycleInput), s.inputs = ⟨true, txn⟩ :: rest →
    step s = .next { State.reset with inputs := rest })

/-- R191, with its sentence that holding reset holds the state. The list of inputs is log entry 1. -/
def Obligations.ResetHoldsS0 : Prop :=
  ∀ (s : State) (held rest : List CycleInput), s.inputs = held ++ rest → (∀ c ∈ held, c.reset = true) →
    ∀ k, k < held.length → ∃ t : State, Host.Core.run core (k + 1) s = .next t ∧
      t.enabled = false ∧ t.started = false ∧ t.countdownConfigured = 0#32 ∧ t.countdownRemaining = 0#32 ∧
      t.timeoutPending = false

/-- P3, R139 (by R111, R113). -/
def Obligations.TickDecrementsByOne : Prop :=
  ∀ s : State,
    (∀ z, (counterActive s = true → (tickWith z s).countdownRemaining.toNat + 1 = s.countdownRemaining.toNat) ∧
          (counterActive s = false → (tickWith z s).countdownRemaining = s.countdownRemaining)) ∧
    (counterActive s = true → (tick s).countdownRemaining.toNat + 1 = s.countdownRemaining.toNat) ∧
    (counterActive s = false → (tick s).countdownRemaining = s.countdownRemaining)

/-- The pseudocode of R111 in closed form; holds for each value of the parameter (log entry 4). -/
def Obligations.IdleCycleResult : Prop :=
  ∀ s : State, ∃ t, exec .idle s = .next t ∧
    t.enabled = s.enabled ∧ t.started = s.started ∧ t.countdownConfigured = s.countdownConfigured ∧
    t.inputs = s.inputs ∧ t.rdata = 0#32 ∧
    t.countdownRemaining.toNat = (if s.started then s.countdownRemaining.toNat - 1 else s.countdownRemaining.toNat) ∧
    t.timeoutPending = (s.timeoutPending || (s.started &&
      (s.countdownRemaining == 1#32 || (s.countdownRemaining == 0#32 && Config.zeroReloadExpires)))) ∧
    t = { tick s with rdata := 0#32 }

/-- R113. -/
def Obligations.ExpiredStateStableUnderTicks : Prop :=
  (∀ s : State, s.countdownRemaining = 0#32 →
    (tick s).countdownRemaining = 0#32 ∧ ∀ z, (tickWith z s).countdownRemaining = 0#32) ∧
  ∀ (n : Nat) (s : State), s.started = true → s.countdownRemaining = 0#32 → s.timeoutPending = true →
    counterActive s = false ∧ runEvents (List.replicate n .tick) s = s

/-- R115. -/
def Obligations.TickDoesNothingUnlessStarted : Prop :=
  ∀ s : State, s.started = false → (∀ z, tickWith z s = s) ∧ tick s = s

/-- R114; the parameter is OPEN in the spec (log entry 4) and the statement holds for every value of it. -/
def Obligations.ZeroReloadTick : Prop :=
  ∀ s : State, s.started = true → s.countdownRemaining = 0#32 → s.timeoutPending = false →
    tickWith false s = s ∧ tickWith true s = { s with timeoutPending := true } ∧
    tick s = { s with timeoutPending := Config.zeroReloadExpires }

/-- R114: "reachable in exactly one way". -/
def Obligations.ZeroReloadStateEntry : Prop :=
  ∀ (e : Event) (s : State), zeroReload s = false →
    (zeroReload (e.apply s) = true ↔
      e.writes 3 = true ∧ validTap e.value s = true ∧ s.countdownConfigured = 0#32)

/-- R116, at the primitive level, so it holds under both orders of decision D2. -/
def Obligations.TimeToExpiry : Prop :=
  ∀ (es : List Event) (s : State), s.started = true → 0 < s.countdownRemaining.toNat → quietRun es s = true →
    let t := runEvents es s
    (tickCount es < s.countdownRemaining.toNat →
      t.countdownRemaining.toNat = s.countdownRemaining.toNat - tickCount es ∧
      t.timeoutPending = s.timeoutPending ∧ counterActive t = true) ∧
    (tickCount es = s.countdownRemaining.toNat → t.countdownRemaining = 0#32 ∧ t.timeoutPending = true)

/-- R123 case a and the first row of R211. -/
def Obligations.StartToInterrupt : Prop :=
  ∀ (i : Instr) (s : State), (∃ (b : Byte) (h : Half) (w : Word), i = .wrBStart b ∨ i = .wrHStart h ∨ i = .wrWStart w) →
    s.inputs = [encode i] → 0 < s.countdownConfigured.toNat →
    ∀ k, k ≤ s.countdownConfigured.toNat →
      ∃ t : State, Host.Core.run core (k + 1) s = .next t ∧
        t.enabled = true ∧ t.started = true ∧ t.countdownConfigured = s.countdownConfigured ∧
        t.countdownRemaining.toNat = s.countdownConfigured.toNat - k ∧
        irq t = (irq (tick s) || decide (k = s.countdownConfigured.toNat))

/-- R81 under R120 (decision D2); the tick itself is IdleCycleResult. -/
def Obligations.EnableWriteResult : Prop :=
  (∀ (v : Byte) (s : State), exec (.wrBEnable v) s = .next { tick s with
    enabled := decide (v.toNat ≠ 0), started := s.started && decide (v.toNat ≠ 0), rdata := 0#32 }) ∧
  (∀ (v : Half) (s : State), exec (.wrHEnable v) s = .next { tick s with
    enabled := decide (v.toNat ≠ 0), started := s.started && decide (v.toNat ≠ 0), rdata := 0#32 }) ∧
  (∀ (v : Word) (s : State), exec (.wrWEnable v) s = .next { tick s with
    enabled := decide (v.toNat ≠ 0), started := s.started && decide (v.toNat ≠ 0), rdata := 0#32 })

/-- R82 under R120 (decisions D2, D10). -/
def Obligations.StartWriteResult : Prop :=
  (∀ (v : Byte) (s : State), exec (.wrBStart v) s = .next (if s.countdownConfigured.toNat = 0 then { tick s with rdata := 0#32 }
    else { tick s with enabled := true, started := true, countdownRemaining := s.countdownConfigured, rdata := 0#32 })) ∧
  (∀ (v : Half) (s : State), exec (.wrHStart v) s = .next (if s.countdownConfigured.toNat = 0 then { tick s with rdata := 0#32 }
    else { tick s with enabled := true, started := true, countdownRemaining := s.countdownConfigured, rdata := 0#32 })) ∧
  (∀ (v : Word) (s : State), exec (.wrWStart v) s = .next (if s.countdownConfigured.toNat = 0 then { tick s with rdata := 0#32 }
    else { tick s with enabled := true, started := true, countdownRemaining := s.countdownConfigured, rdata := 0#32 }))

/-- R83, R84, R85 with the lanes of R46, under R120. -/
def Obligations.CountdownWriteResult : Prop :=
  (∀ (v : Byte) (s : State), ∃ c : Word, c.toNat = s.countdownConfigured.toNat / 256 * 256 + v.toNat ∧
    exec (.wrBCountdown v) s = .next { tick s with countdownConfigured := c, rdata := 0#32 }) ∧
  (∀ (v : Half) (s : State), ∃ c : Word, c.toNat = s.countdownConfigured.toNat / 65536 * 65536 + v.toNat ∧
    exec (.wrHCountdown v) s = .next { tick s with countdownConfigured := c, rdata := 0#32 }) ∧
  (∀ (v : Word) (s : State),
    exec (.wrWCountdown v) s = .next { tick s with countdownConfigured := v, rdata := 0#32 })

/-- R86 under R120. -/
def Obligations.TapWriteResult : Prop :=
  (∀ (v : Byte) (s : State), exec (.wrBTap v) s = .next { tick s with rdata := 0#32 }) ∧
  (∀ (v : Half) (s : State), exec (.wrHTap v) s = .next (if s.enabled ∧ s.started ∧ v.toNat = 0xABCD
    then { tick s with countdownRemaining := s.countdownConfigured, timeoutPending := false, rdata := 0#32 }
    else { tick s with rdata := 0#32 })) ∧
  (∀ (v : Word) (s : State), exec (.wrWTap v) s = .next (if s.enabled ∧ s.started ∧ v.toNat = 0xABCD
    then { tick s with countdownRemaining := s.countdownConfigured, timeoutPending := false, rdata := 0#32 }
    else { tick s with rdata := 0#32 }))

/-- R87, R88 under R120. -/
def Obligations.NoEffectWrites : Prop :=
  (∀ (v : Byte) (s : State), exec (.wrBStatus v) s = .next { tick s with rdata := 0#32 }) ∧
  (∀ (v : Half) (s : State), exec (.wrHStatus v) s = .next { tick s with rdata := 0#32 }) ∧
  (∀ (v : Word) (s : State), exec (.wrWStatus v) s = .next { tick s with rdata := 0#32 }) ∧
  (∀ (v : Byte) (s : State), exec (.wrBUnmapped5 v) s = .next { tick s with rdata := 0#32 }) ∧
  (∀ (v : Half) (s : State), exec (.wrHUnmapped5 v) s = .next { tick s with rdata := 0#32 }) ∧
  (∀ (v : Word) (s : State), exec (.wrWUnmapped5 v) s = .next { tick s with rdata := 0#32 }) ∧
  (∀ (addr : Addr) (v : Byte) (s : State), exec (.wrBUnmapped6To7 addr v) s = .next { tick s with rdata := 0#32 }) ∧
  (∀ (addr : Addr) (v : Half) (s : State), exec (.wrHUnmapped6To7 addr v) s = .next { tick s with rdata := 0#32 }) ∧
  (∀ (addr : Addr) (v : Word) (s : State), exec (.wrWUnmapped6To7 addr v) s = .next { tick s with rdata := 0#32 }) ∧
  (∀ (addr : Addr) (v : Byte) (s : State), exec (.wrBUnmapped8To15 addr v) s = .next { tick s with rdata := 0#32 }) ∧
  (∀ (addr : Addr) (v : Half) (s : State), exec (.wrHUnmapped8To15 addr v) s = .next { tick s with rdata := 0#32 }) ∧
  (∀ (addr : Addr) (v : Word) (s : State), exec (.wrWUnmapped8To15 addr v) s = .next { tick s with rdata := 0#32 }) ∧
  (∀ (addr : Addr) (v : Byte) (s : State), exec (.wrBUnmapped16To31 addr v) s = .next { tick s with rdata := 0#32 }) ∧
  (∀ (addr : Addr) (v : Half) (s : State), exec (.wrHUnmapped16To31 addr v) s = .next { tick s with rdata := 0#32 }) ∧
  (∀ (addr : Addr) (v : Word) (s : State), exec (.wrWUnmapped16To31 addr v) s = .next { tick s with rdata := 0#32 }) ∧
  (∀ (addr : Addr) (v : Byte) (s : State), exec (.wrBUnmapped32To63 addr v) s = .next { tick s with rdata := 0#32 }) ∧
  (∀ (addr : Addr) (v : Half) (s : State), exec (.wrHUnmapped32To63 addr v) s = .next { tick s with rdata := 0#32 }) ∧
  (∀ (addr : Addr) (v : Word) (s : State), exec (.wrWUnmapped32To63 addr v) s = .next { tick s with rdata := 0#32 })

/-- P2, R138. -/
def Obligations.ReloadOnStart : Prop :=
  ∀ (w : Width) (v : Word) (s : State), s.countdownConfigured ≠ 0#32 →
    ((wr 1#6 w v).apply s).countdownRemaining = ((wr 1#6 w v).apply s).countdownConfigured ∧
    ∀ (b : Byte) (h : Half) (x : Word), ∀ i ∈ [Instr.wrBStart b, Instr.wrHStart h, Instr.wrWStart x],
      ∃ t, exec i s = .next t ∧ t.countdownRemaining = t.countdownConfigured

/-- P1, R137: "never been set nonzero" counts from the last reset. -/
def Obligations.NoSpuriousStart : Prop :=
  ∀ (s : State) (es : List Event), neverConfigured es (resetAll s) = true →
    (runEvents es (resetAll s)).started = false ∧
    ∀ (w : Width) (v : Word), ((wr 1#6 w v).apply (runEvents es (resetAll s))).started = false

/-- R136 (f); the flag by R136 (e). -/
def Obligations.NoConfigNoCount : Prop :=
  ∀ (s : State) (es : List Event), neverConfigured es (resetAll s) = true →
    (runEvents es (resetAll s)).countdownRemaining = 0#32 ∧ (runEvents es (resetAll s)).timeoutPending = false

/-- P4, R140, by R112 and R134; "reaches 0" means by a decrement. -/
def Obligations.ExpiryAssertsInterrupt : Prop :=
  (∀ s : State, s.started = true → s.countdownRemaining ≠ 0#32 → (tick s).countdownRemaining = 0#32 →
    (tick s).timeoutPending = true) ∧
  (∀ (es : List Event) (s : State), s.timeoutPending = true → stickyRun es s = true →
    (runEvents es s).timeoutPending = true ∧ irq (runEvents es s) = true)

/-- P5, R141. A byte cannot carry the value (R201). -/
def Obligations.TapClearsAndReloads : Prop :=
  ∀ (w : Width) (s : State), w ≠ .byte → s.enabled = true → s.started = true →
    ((wr 3#6 w 0xABCD#32).apply s).countdownRemaining = s.countdownConfigured ∧
    ((wr 3#6 w 0xABCD#32).apply s).timeoutPending = false

/-- P6, R142; rdata is the cycle's output (log entry 3), not one of the five fields. -/
def Obligations.TapNoOpConditions : Prop :=
  ∀ (w : Width) (v : Word) (s : State), v ≠ 0xABCD#32 ∨ s.enabled = false ∨ s.started = false →
    ∃ d : Word, (wr 3#6 w v).apply s = { s with rdata := d }

/-- P7, R143. -/
def Obligations.DisableKeepsFault : Prop :=
  ∀ (w : Width) (s : State), s.timeoutPending = true →
    ((wr 0#6 w 0#32).apply s).timeoutPending = true ∧ irq ((wr 0#6 w 0#32).apply s) = true ∧
    ((wr 0#6 w 0#32).apply s).enabled = false ∧ ((wr 0#6 w 0#32).apply s).started = false

/-- P8, R144 (by R104, R121). -/
def Obligations.StatusBitFidelity : Prop :=
  (∀ (w : Width) (s : State) (k : Nat), (regRead 4 w s).getLsbD k =
    if k = 0 then s.enabled else if k = 1 then s.started else if k = 2 then s.timeoutPending
    else if k = 3 then s.started && decide (0 < s.countdownRemaining.toNat) else false) ∧
  (∀ (w : Width) (s : State), ∀ i ∈ [Instr.rdBStatus, Instr.rdHStatus, Instr.rdWStatus],
    ∃ t, exec i s = .next t ∧ t.rdata = regRead 4 w (tick s))

/-- R104 under R121. -/
def Obligations.StatusReadResult : Prop :=
  ∀ s : State, ∃ d : Word,
    d.toNat = (tick s).enabled.toNat + 2 * (tick s).started.toNat + 4 * (tick s).timeoutPending.toNat +
      8 * (counterActive (tick s)).toNat ∧
    exec .rdBStatus s = .next { tick s with rdata := d } ∧
    exec .rdHStatus s = .next { tick s with rdata := d } ∧
    exec .rdWStatus s = .next { tick s with rdata := d }

/-- R101, R102, R103 under R121. -/
def Obligations.CountdownReadResult : Prop :=
  (∀ s : State, ∃ d : Word, d.toNat = s.countdownConfigured.toNat % 256 ∧
    exec .rdBCountdown s = .next { tick s with rdata := d }) ∧
  (∀ s : State, ∃ d : Word, d.toNat = s.countdownConfigured.toNat % 65536 ∧
    exec .rdHCountdown s = .next { tick s with rdata := d }) ∧
  (∀ s : State, exec .rdWCountdown s = .next { tick s with rdata := s.countdownConfigured })

/-- R105 to R108 under R121. -/
def Obligations.ZeroReads : Prop :=
  (∀ (s : State), exec .rdBEnable s = .next { tick s with rdata := 0#32 }) ∧
  (∀ (s : State), exec .rdHEnable s = .next { tick s with rdata := 0#32 }) ∧
  (∀ (s : State), exec .rdWEnable s = .next { tick s with rdata := 0#32 }) ∧
  (∀ (s : State), exec .rdBStart s = .next { tick s with rdata := 0#32 }) ∧
  (∀ (s : State), exec .rdHStart s = .next { tick s with rdata := 0#32 }) ∧
  (∀ (s : State), exec .rdWStart s = .next { tick s with rdata := 0#32 }) ∧
  (∀ (s : State), exec .rdBTap s = .next { tick s with rdata := 0#32 }) ∧
  (∀ (s : State), exec .rdHTap s = .next { tick s with rdata := 0#32 }) ∧
  (∀ (s : State), exec .rdWTap s = .next { tick s with rdata := 0#32 }) ∧
  (∀ (s : State), exec .rdBUnmapped5 s = .next { tick s with rdata := 0#32 }) ∧
  (∀ (s : State), exec .rdHUnmapped5 s = .next { tick s with rdata := 0#32 }) ∧
  (∀ (s : State), exec .rdWUnmapped5 s = .next { tick s with rdata := 0#32 }) ∧
  (∀ (addr : Addr) (s : State), exec (.rdBUnmapped6To7 addr) s = .next { tick s with rdata := 0#32 }) ∧
  (∀ (addr : Addr) (s : State), exec (.rdHUnmapped6To7 addr) s = .next { tick s with rdata := 0#32 }) ∧
  (∀ (addr : Addr) (s : State), exec (.rdWUnmapped6To7 addr) s = .next { tick s with rdata := 0#32 }) ∧
  (∀ (addr : Addr) (s : State), exec (.rdBUnmapped8To15 addr) s = .next { tick s with rdata := 0#32 }) ∧
  (∀ (addr : Addr) (s : State), exec (.rdHUnmapped8To15 addr) s = .next { tick s with rdata := 0#32 }) ∧
  (∀ (addr : Addr) (s : State), exec (.rdWUnmapped8To15 addr) s = .next { tick s with rdata := 0#32 }) ∧
  (∀ (addr : Addr) (s : State), exec (.rdBUnmapped16To31 addr) s = .next { tick s with rdata := 0#32 }) ∧
  (∀ (addr : Addr) (s : State), exec (.rdHUnmapped16To31 addr) s = .next { tick s with rdata := 0#32 }) ∧
  (∀ (addr : Addr) (s : State), exec (.rdWUnmapped16To31 addr) s = .next { tick s with rdata := 0#32 }) ∧
  (∀ (addr : Addr) (s : State), exec (.rdBUnmapped32To63 addr) s = .next { tick s with rdata := 0#32 }) ∧
  (∀ (addr : Addr) (s : State), exec (.rdHUnmapped32To63 addr) s = .next { tick s with rdata := 0#32 }) ∧
  (∀ (addr : Addr) (s : State), exec (.rdWUnmapped32To63 addr) s = .next { tick s with rdata := 0#32 })

/-- R50, R100. -/
def Obligations.ReadsChangeNoField : Prop :=
  (∀ (t : Txn) (s : State), t.op = .read →
    access t s = { s with rdata := (access t s).rdata } ∧ access t (access t s) = access t s) ∧
  (∀ (i : Instr) (s : State), isRead i = true → ∃ d : Word, exec i s = .next { tick s with rdata := d }) ∧
  (∃ s t u : State, exec .rdWStatus s = .next t ∧ exec .rdWStatus t = .next u ∧ t.rdata ≠ u.rdata)

/-- R165, R166, R167 and R134. -/
def Obligations.PendingSetAndCleared : Prop :=
  ∀ (i : Instr) (s t : State), exec i s = .next t →
    (irq s = false → irq t = true → i ≠ .reset ∧ s.started = true ∧
      (s.countdownRemaining = 1#32 ∨ (s.countdownRemaining = 0#32 ∧ Config.zeroReloadExpires = true))) ∧
    (irq s = true → irq t = false → i = .reset ∨
      (writesTo 3 i = true ∧ valueOf i = 0xABCD#32 ∧ s.enabled = true ∧ s.started = true))

/-- R28's writer table, per cycle: a field that changes does so by an operation with a cell for it, to the value of
that cell. The order within the cycle is decision D2, the lanes D6. The last clause is about the model's own field
(log entry 1), of which R28 says nothing. The table at the primitive level is WriterTable. -/
def Obligations.FieldWriters : Prop :=
  ∀ (i : Instr) (s t : State), exec i s = .next t →
    (t.enabled ≠ s.enabled →
      (i = .reset ∧ t.enabled = false) ∨
      (writesTo 0 i = true ∧ t.enabled = decide (valueOf i ≠ 0#32)) ∨
      (writesTo 1 i = true ∧ s.countdownConfigured ≠ 0#32 ∧ t.enabled = true)) ∧
    (t.started ≠ s.started →
      (i = .reset ∧ t.started = false) ∨
      (writesTo 0 i = true ∧ valueOf i = 0#32 ∧ t.started = false) ∨
      (writesTo 1 i = true ∧ s.countdownConfigured ≠ 0#32 ∧ t.started = true)) ∧
    (t.countdownConfigured ≠ s.countdownConfigured →
      (i = .reset ∧ t.countdownConfigured = 0#32) ∨
      (writesTo 2 i = true ∧ ∃ x, i.txn = some x ∧ ∀ k, t.countdownConfigured.getLsbD k =
        if k < x.width.bits then x.value.getLsbD k else s.countdownConfigured.getLsbD k)) ∧
    (t.countdownRemaining ≠ s.countdownRemaining →
      (i = .reset ∧ t.countdownRemaining = 0#32) ∨
      (counterActive s = true ∧ t.countdownRemaining.toNat + 1 = s.countdownRemaining.toNat) ∨
      (writesTo 1 i = true ∧ s.countdownConfigured ≠ 0#32 ∧ t.countdownRemaining = s.countdownConfigured) ∨
      (writesTo 3 i = true ∧ valueOf i = 0xABCD#32 ∧ s.enabled = true ∧ s.started = true ∧
        t.countdownRemaining = s.countdownConfigured)) ∧
    (t.timeoutPending ≠ s.timeoutPending →
      (t.timeoutPending = true ∧ i ≠ .reset ∧ s.started = true ∧
        (s.countdownRemaining = 1#32 ∨ (s.countdownRemaining = 0#32 ∧ Config.zeroReloadExpires = true))) ∨
      (t.timeoutPending = false ∧ (i = .reset ∨
        (writesTo 3 i = true ∧ valueOf i = 0xABCD#32 ∧ s.enabled = true ∧ s.started = true)))) ∧
    t.inputs = s.inputs

/-- R136 (d). -/
def Obligations.PrimitiveCounterMoves : Prop :=
  ∀ (e : Event) (s : State), (e.apply s).countdownRemaining = s.countdownRemaining ∨
    (e = .tick ∧ counterActive s = true ∧ (e.apply s).countdownRemaining.toNat + 1 = s.countdownRemaining.toNat) ∨
    ((e.writes 1 = true ∧ s.countdownConfigured ≠ 0#32 ∨ e.writes 3 = true ∧ validTap e.value s = true) ∧
      (e.apply s).countdownRemaining = s.countdownConfigured) ∨
    (e = .reset ∧ (e.apply s).countdownRemaining = 0#32)

/-- R136 (e). -/
def Obligations.PendingHasAnExpiry : Prop :=
  ∀ (es : List Event) (s : State), (runEvents es (resetAll s)).timeoutPending = true →
    ∃ before after, es = before ++ .tick :: after ∧
      (let u := runEvents before (resetAll s)
       u.started = true ∧ (u.countdownRemaining = 1#32 ∨ (zeroReload u = true ∧ Config.zeroReloadExpires = true)) ∧
         stickyRun after (tick u) = true)

/-- R123 (b), (c), vectors CY9, CY11, CY12. -/
def Obligations.AccessInTheExpiryCycle : Prop :=
  ∀ s : State, s.enabled = true → s.started = true → s.countdownRemaining = 1#32 →
    (∀ i ∈ [Instr.wrHTap 0xABCD#16, Instr.wrWTap 0xABCD#32], exec i s = .next { s with
      countdownRemaining := s.countdownConfigured, timeoutPending := false, rdata := 0#32 }) ∧
    (∀ i ∈ [Instr.wrBEnable 0#8, Instr.wrHEnable 0#16, Instr.wrWEnable 0#32], exec i s = .next { s with
      enabled := false, started := false, countdownRemaining := 0#32, timeoutPending := true, rdata := 0#32 }) ∧
    (∀ (b : Byte) (h : Half) (w : Word), ∀ i ∈ [Instr.wrBStart b, Instr.wrHStart h, Instr.wrWStart w],
      s.countdownConfigured ≠ 0#32 → exec i s = .next { s with
        countdownRemaining := s.countdownConfigured, timeoutPending := true, rdata := 0#32 })

/-- R173, resolution of conflict C4, over all sequences of events (R124). -/
def Obligations.ClearingAFaultAfterDisable : Prop :=
  ∀ s : State, s.enabled = false → s.started = false → s.timeoutPending = true →
    (∀ e : Event, e ≠ .reset → irq (e.apply s) = true) ∧
    (∀ es : List Event, restartFree es s = true → irq (runEvents es s) = true) ∧
    (∀ es : List Event, irq (runEvents es s) = false → Event.reset ∈ es ∨
      ∃ before start mid tap after, es = before ++ start :: (mid ++ tap :: after) ∧
        start.restarts (runEvents before s) = true ∧ tap.writes 3 = true ∧
        validTap tap.value (runEvents (before ++ start :: mid) s) = true) ∧
    (∀ (w : Width) (v : Word), v ≠ 0#32 → irq (runEvents [wr 0#6 w v, wr 3#6 .half 0xABCD#32] s) = true ∧
      statusWord ((wr 0#6 w v).apply s) = 5#32) ∧
    (∀ (w : Width) (v : Word), s.countdownConfigured ≠ 0#32 →
      statusWord ((wr 1#6 w v).apply s) = 15#32 ∧
      statusWord (runEvents [wr 1#6 w v, wr 3#6 .half 0xABCD#32] s) = 11#32 ∧
      irq (runEvents [wr 1#6 w v, wr 3#6 .half 0xABCD#32] s) = false)

/-- R133, with the control states of R130 (names: decision D27). -/
def Obligations.TransitionTable : Prop :=
  ∀ (s : State) (c : ControlState) (w : Width) (v : Word), controlState s = some c →
    (let t := (wr 0#6 w v).apply s
     controlState t = some (if v = 0#32 then .off else if c = .off then .armed else c) ∧
       t.countdownRemaining = s.countdownRemaining ∧ t.timeoutPending = s.timeoutPending) ∧
    (let t := (wr 1#6 w v).apply s
     controlState t = some (if s.countdownConfigured = 0#32 then c else .running) ∧
       t.countdownRemaining = (if s.countdownConfigured = 0#32 then s.countdownRemaining else s.countdownConfigured) ∧
       t.timeoutPending = s.timeoutPending) ∧
    (w ≠ .byte → let t := (wr 3#6 w 0xABCD#32).apply s
     controlState t = some (if c = .off ∨ c = .armed then c
       else if s.countdownConfigured = 0#32 then .expired else .running) ∧
       t.countdownRemaining = (if c = .off ∨ c = .armed then s.countdownRemaining else s.countdownConfigured) ∧
       t.timeoutPending = (if c = .off ∨ c = .armed then s.timeoutPending else false)) ∧
    (let t := tick s
     controlState t = some (if c = .running ∧ s.countdownRemaining = 1#32 then .expired else c) ∧
       t.countdownRemaining = (if c = .running then s.countdownRemaining - 1#32 else s.countdownRemaining) ∧
       t.timeoutPending = (s.timeoutPending || (decide (c = .running) && s.countdownRemaining == 1#32) ||
         (decide (c = .expired) && Config.zeroReloadExpires))) ∧
    (let t := resetAll s
     controlState t = some .off ∧ t.countdownRemaining = 0#32 ∧ t.timeoutPending = false ∧
       t.countdownConfigured = 0#32) ∧
    (∀ x : Txn, (x.op = .read ∨ x.addr.toNat = 2 ∨ 4 ≤ x.addr.toNat ∨ (x.addr.toNat = 3 ∧ x.value ≠ 0xABCD#32)) →
      controlState (access x s) = some c ∧ (access x s).countdownRemaining = s.countdownRemaining ∧
        (access x s).timeoutPending = s.timeoutPending)

/-- R36: "unobservable and has no effect until the next START overwrites it". -/
def Obligations.LeftoverCountUnobservable : Prop :=
  ∀ (s : State) (r : Word), s.started = false →
    ∃ t t' : State, step s = .next t ∧ step { s with countdownRemaining := r } = .next t' ∧
      t'.rdata = t.rdata ∧ irq t' = irq t ∧
      (t' = t ∨ (t.started = false ∧ t' = { t with countdownRemaining := r }))

/-- The last column of R51. -/
def Obligations.WritesAreIdempotent : Prop :=
  ∀ (addr : Nat) (w : Width) (v : Word) (s : State),
    regWrite addr w v (regWrite addr w v s) = regWrite addr w v s

/-- R58, with R46 and R47. -/
def Obligations.MixedWidthCountdown : Prop :=
  (∀ (s : State) (x : Word) (h : Half) (b : Byte),
    let t := regWrite 2 .byte (b.setWidth 32) (regWrite 2 .half (h.setWidth 32) (regWrite 2 .word x s))
    (regRead 2 .word t).toNat = x.toNat / 65536 * 65536 + h.toNat / 256 * 256 + b.toNat ∧
    (regRead 2 .half t).toNat = h.toNat / 256 * 256 + b.toNat ∧ (regRead 2 .byte t).toNat = b.toNat) ∧
  (∀ s : State,
    regRead 2 .word (regWrite 2 .byte 0x04#32 (regWrite 2 .half 0#32 (regWrite 2 .word 0x11223344#32 s))) = 0x11220004#32)

/-- R43; ADDR_WIDTH is OPEN (D13, log entry 7). -/
def Obligations.UnmappedSelectorsAlike : Prop :=
  ∀ (addr : Nat) (w : Width) (v : Word) (s : State), 5 ≤ addr →
    regWrite addr w v s = s ∧ regRead addr w s = 0#32

/-- R100, R47, R75, R89. -/
def Obligations.ReadDataFitsWidth : Prop :=
  ∀ (i : Instr) (s t : State), exec i s = .next t →
    (∀ x, i.txn = some x → x.op = .read → t.rdata.toNat < 2 ^ x.width.bits) ∧ (isRead i = false → t.rdata = 0#32)

/-- R28: the table whole, value cells and blank cells; the lanes are decision D6, the tap's comparison D9, the
parameter D15 (log entries 16, 17, 4). -/
def Obligations.WriterTable : Prop :=
  (∀ (x : Txn) (s : State), x.op = .write →
    let a := x.addr.toNat
    let u := access x s
    (u.enabled = if a = 0 then decide (x.value ≠ 0#32)
      else if a = 1 ∧ s.countdownConfigured ≠ 0#32 then true else s.enabled) ∧
    (u.started = if a = 0 then s.started && decide (x.value ≠ 0#32)
      else if a = 1 ∧ s.countdownConfigured ≠ 0#32 then true else s.started) ∧
    (∀ k, u.countdownConfigured.getLsbD k =
      if a = 2 ∧ k < x.width.bits then x.value.getLsbD k else s.countdownConfigured.getLsbD k) ∧
    (u.countdownRemaining = if (a = 1 ∧ s.countdownConfigured ≠ 0#32) ∨
        (a = 3 ∧ s.enabled = true ∧ s.started = true ∧ x.value = 0xABCD#32)
      then s.countdownConfigured else s.countdownRemaining) ∧
    (u.timeoutPending = if a = 3 ∧ s.enabled = true ∧ s.started = true ∧ x.value = 0xABCD#32
      then false else s.timeoutPending)) ∧
  (∀ (x : Txn) (s : State), x.op = .read → ∃ d : Word, access x s = { s with rdata := d }) ∧
  (∀ s : State,
    (tick s).enabled = s.enabled ∧ (tick s).started = s.started ∧ (tick s).countdownConfigured = s.countdownConfigured ∧
    (tick s).countdownRemaining.toNat =
      (if counterActive s = true then s.countdownRemaining.toNat - 1 else s.countdownRemaining.toNat) ∧
    (tick s).timeoutPending = (s.timeoutPending || (s.started && s.countdownRemaining == 1#32) ||
      (zeroReload s && Config.zeroReloadExpires))) ∧
  (∀ s : State,
    (resetAll s).enabled = false ∧ (resetAll s).started = false ∧ (resetAll s).countdownConfigured = 0#32 ∧
    (resetAll s).countdownRemaining = 0#32 ∧ (resetAll s).timeoutPending = false)
end

