-- ==== Sys2Proof/Laws/Decode.lean ====
section
/-!
SUPPORT. The fields of a packed word, what `Width.ofCode` and `unpack` answer, the operand's bits, and when a packed word
belongs to a row of the opcode table.
-/

namespace Sys2Proof.Laws

/-! ## Fields of a word made from fields -/

/-- A word made from fields, bit by bit (R62). -/
theorem ofFields_getLsbD (rw : BitVec 1) (wc : BitVec 2) (addr : Addr) (data : Word) (k : Nat) :
    (TxnWord.ofFields rw wc addr data).getLsbD k =
      if k < 32 then data.getLsbD k else if k < 38 then addr.getLsbD (k - 32)
      else if k < 40 then wc.getLsbD (k - 38) else rw.getLsbD (k - 40) := by
  have h1 : (TxnWord.ofFields rw wc addr data).getLsbD k =
      if k < 40 then (wc ++ (addr ++ data) : BitVec (2 + (6 + 32))).getLsbD k else rw.getLsbD (k - 40) :=
    BitVec.getLsbD_append
  have h2 : (wc ++ (addr ++ data) : BitVec (2 + (6 + 32))).getLsbD k =
      if k < 38 then (addr ++ data : BitVec (6 + 32)).getLsbD k else wc.getLsbD (k - 38) := BitVec.getLsbD_append
  have h3 : (addr ++ data : BitVec (6 + 32)).getLsbD k =
      if k < 32 then data.getLsbD k else addr.getLsbD (k - 32) := BitVec.getLsbD_append
  rw [h1, h2, h3]
  split_ifs <;> first | rfl | omega

@[simp] theorem ofFields_data (rw : BitVec 1) (wc : BitVec 2) (addr : Addr) (data : Word) :
    (TxnWord.ofFields rw wc addr data).data = data := by
  apply BitVec.eq_of_getLsbD_eq
  intro i hi
  simp [TxnWord.data, ofFields_getLsbD, hi]

@[simp] theorem ofFields_addr (rw : BitVec 1) (wc : BitVec 2) (addr : Addr) (data : Word) :
    (TxnWord.ofFields rw wc addr data).addr = addr := by
  apply BitVec.eq_of_getLsbD_eq
  intro i hi
  simp [TxnWord.addr, ofFields_getLsbD, hi, show 32 + i < 38 by omega]

@[simp] theorem ofFields_wc (rw : BitVec 1) (wc : BitVec 2) (addr : Addr) (data : Word) :
    (TxnWord.ofFields rw wc addr data).wc = wc := by
  apply BitVec.eq_of_getLsbD_eq
  intro i hi
  simp [TxnWord.wc, ofFields_getLsbD, hi, show ¬ (38 + i < 32) by omega,
    show 38 + i < 40 by omega]

@[simp] theorem ofFields_rw (rw : BitVec 1) (wc : BitVec 2) (addr : Addr) (data : Word) :
    (TxnWord.ofFields rw wc addr data).rw = rw := by
  apply BitVec.eq_of_getLsbD_eq
  intro i hi
  simp [TxnWord.rw, ofFields_getLsbD, hi, show ¬ (40 + i < 32) by omega,
    show ¬ (40 + i < 38) by omega]

/-- A word is made of its own fields. -/
theorem ofFields_fields (t : TxnWord) : TxnWord.ofFields t.rw t.wc t.addr t.data = t := by
  apply BitVec.eq_of_getLsbD_eq
  intro i hi
  simp only [ofFields_getLsbD, TxnWord.rw, TxnWord.wc, TxnWord.addr, TxnWord.data, BitVec.getLsbD_extractLsb']
  split_ifs
  · simp [*]
  · simp [show i - 32 < 6 by omega, show 32 + (i - 32) = i by omega]
  · simp [show i - 38 < 2 by omega, show 38 + (i - 38) = i by omega]
  · simp [show i - 40 < 1 by omega, show 40 + (i - 40) = i by omega]

/-- The masked word of fields is made of the masked fields. -/
theorem ofFields_and (rw rw' : BitVec 1) (wc wc' : BitVec 2) (addr addr' : Addr) (data data' : Word) :
    TxnWord.ofFields rw wc addr data &&& TxnWord.ofFields rw' wc' addr' data' =
      TxnWord.ofFields (rw &&& rw') (wc &&& wc') (addr &&& addr') (data &&& data') := by
  apply BitVec.eq_of_getLsbD_eq
  intro i _
  simp only [BitVec.getLsbD_and, ofFields_getLsbD]
  split_ifs <;> rfl

/-! ## Width codes -/

@[simp] theorem ofCode_code (w : Width) : Width.ofCode w.code = some w := by cases w <;> rfl

/-- A code selects a width exactly when it is that width's code. -/
theorem ofCode_eq_some {c : BitVec 2} {w : Width} : Width.ofCode c = some w ↔ c = w.code := by
  revert c; cases w <;> decide

/-- Only the code `11` selects no width (R64). -/
theorem ofCode_eq_none {c : BitVec 2} : Width.ofCode c = none ↔ c = 0b11#2 := by
  revert c; decide

/-! ## Unpacking -/

/-- What `unpack` answers: a refusal for the reserved code, else the tuple of the word's fields. -/
theorem unpack_cases (t : TxnWord) :
    (t.wc = 0b11#2 ∧ t.unpack = .error .reservedWidthCode) ∨
    ∃ w, t.wc = w.code ∧
      ((t.rw = 1#1 ∧ t.unpack = .ok ⟨.write, w, t.addr, operandValue w t.data⟩) ∨
       (t.rw ≠ 1#1 ∧ t.unpack = .ok ⟨.read, w, t.addr, 0#32⟩)) := by
  cases h : Width.ofCode t.wc with
  | none => exact .inl ⟨ofCode_eq_none.mp h, by simp [TxnWord.unpack, h]⟩
  | some w =>
    refine .inr ⟨w, ofCode_eq_some.mp h, ?_⟩
    by_cases hr : t.rw = 1#1
    · exact .inl ⟨hr, by simp [TxnWord.unpack, h, hr]⟩
    · exact .inr ⟨hr, by simp [TxnWord.unpack, h, hr]⟩

/-- Unpacking a packed write gives its operation, width and selector back, and its value below the width. -/
theorem unpack_pack_write (w : Width) (addr : Addr) (v : Word) :
    (Txn.pack ⟨.write, w, addr, v⟩).unpack = .ok ⟨.write, w, addr, operandValue w v⟩ := by
  simp [Txn.pack, TxnWord.unpack]

/-- Unpacking a packed read gives it back. -/
theorem unpack_pack_read (w : Width) (addr : Addr) (v : Word) :
    (Txn.pack ⟨.read, w, addr, v⟩).unpack = .ok ⟨.read, w, addr, 0#32⟩ := by
  simp [Txn.pack, TxnWord.unpack]

/-! ## Operand values -/

@[simp] theorem operandValue_byte (v : Byte) : operandValue .byte (v.setWidth 32) = v.setWidth 32 := by
  simp [operandValue]

@[simp] theorem operandValue_half (v : Half) : operandValue .half (v.setWidth 32) = v.setWidth 32 := by
  simp [operandValue]

@[simp] theorem operandValue_word (v : Word) : operandValue .word v = v := rfl

/-- The operand keeps the bits below the width and no other (R45, R66). -/
theorem operandValue_getLsbD (w : Width) (data : Word) (k : Nat) :
    (operandValue w data).getLsbD k = (decide (k < w.bits) && data.getLsbD k) := by
  have hs (n : Nat) (hn : n ≤ 32) :
      ((data.setWidth n).setWidth 32).getLsbD k = (decide (k < n) && data.getLsbD k) := by
    rw [BitVec.getLsbD_setWidth, BitVec.getLsbD_setWidth]
    by_cases h : k < n
    · simp [h, show k < 32 by omega]
    · simp [h]
  cases w with
  | byte => exact hs 8 (by omega)
  | half => exact hs 16 (by omega)
  | word =>
    by_cases h : k < 32
    · simp [operandValue, Width.bits, h]
    · simp [operandValue, Width.bits, BitVec.getLsbD_of_ge data k (by omega)]

/-! ## Rows -/

/-- A word of a row that fixes `rw`, `wc` and `addr` belongs to it, whatever its data. -/
theorem row_hits (m : String) (mask pat : TxnWord) (rw : BitVec 1) (wc : BitVec 2) (addr : Addr) (data : Word)
    (hm : mask = TxnWord.ofFields 1#1 3#2 63#6 0#32) (hp : pat = TxnWord.ofFields rw wc addr 0#32) :
    TableRow.hits ⟨m, mask, pat⟩ (TxnWord.ofFields rw wc addr data) = true := by
  subst hm hp
  simp only [TableRow.hits, ofFields_and, beq_iff_eq]
  congr 1
  · revert rw; decide
  · revert wc; decide
  · revert addr; decide
  · simp

/-- A word of a row that covers a range of selectors belongs to it, whatever its data. -/
theorem row_hits_range (m : String) (mask pat : TxnWord) (rw : BitVec 1) (wc : BitVec 2) (addr amask apat: Addr) (data : Word)
    (lo hi : Nat)
    (hm : mask = TxnWord.ofFields 1#1 3#2 amask 0#32) (hp : pat = TxnWord.ofFields rw wc apat 0#32)
    (hwf : Addr.inRange lo hi addr = true) (ha : ∀ a : Addr, Addr.inRange lo hi a = true → a &&& amask = apat) :
    TableRow.hits ⟨m, mask, pat⟩ (TxnWord.ofFields rw wc addr data) = true := by
  subst hm hp
  simp only [TableRow.hits, ofFields_and, beq_iff_eq]
  congr 1
  · revert rw; decide
  · revert wc; decide
  · exact ha addr hwf
  · simp

end Sys2Proof.Laws
end

