-- ==== Sys2Proof/Laws/State.lean ====
section
/-!
SUPPORT. One lemma per field per writer of one field, so that no proof unfolds a record update, and what the host's inputs
look like after one is taken or presented.
-/

namespace Sys2Proof.Laws

open Sys2Proof.Machine

/-! ### `State.setEnabled` -/

@[simp] theorem setEnabled_enabled (x : Bool) (s : State) : (s.setEnabled x).enabled = x := rfl
@[simp] theorem setEnabled_started (x : Bool) (s : State) : (s.setEnabled x).started = s.started := rfl
@[simp] theorem setEnabled_countdownConfigured (x : Bool) (s : State) : (s.setEnabled x).countdownConfigured = s.countdownConfigured := rfl
@[simp] theorem setEnabled_countdownRemaining (x : Bool) (s : State) : (s.setEnabled x).countdownRemaining = s.countdownRemaining := rfl
@[simp] theorem setEnabled_timeoutPending (x : Bool) (s : State) : (s.setEnabled x).timeoutPending = s.timeoutPending := rfl
@[simp] theorem setEnabled_rdata (x : Bool) (s : State) : (s.setEnabled x).rdata = s.rdata := rfl
@[simp] theorem setEnabled_inputs (x : Bool) (s : State) : (s.setEnabled x).inputs = s.inputs := rfl

/-! ### `State.setStarted` -/

@[simp] theorem setStarted_enabled (x : Bool) (s : State) : (s.setStarted x).enabled = s.enabled := rfl
@[simp] theorem setStarted_started (x : Bool) (s : State) : (s.setStarted x).started = x := rfl
@[simp] theorem setStarted_countdownConfigured (x : Bool) (s : State) : (s.setStarted x).countdownConfigured = s.countdownConfigured := rfl
@[simp] theorem setStarted_countdownRemaining (x : Bool) (s : State) : (s.setStarted x).countdownRemaining = s.countdownRemaining := rfl
@[simp] theorem setStarted_timeoutPending (x : Bool) (s : State) : (s.setStarted x).timeoutPending = s.timeoutPending := rfl
@[simp] theorem setStarted_rdata (x : Bool) (s : State) : (s.setStarted x).rdata = s.rdata := rfl
@[simp] theorem setStarted_inputs (x : Bool) (s : State) : (s.setStarted x).inputs = s.inputs := rfl

/-! ### `State.setConfigured` -/

@[simp] theorem setConfigured_enabled (x : Word) (s : State) : (s.setConfigured x).enabled = s.enabled := rfl
@[simp] theorem setConfigured_started (x : Word) (s : State) : (s.setConfigured x).started = s.started := rfl
@[simp] theorem setConfigured_countdownConfigured (x : Word) (s : State) : (s.setConfigured x).countdownConfigured = x := rfl
@[simp] theorem setConfigured_countdownRemaining (x : Word) (s : State) : (s.setConfigured x).countdownRemaining = s.countdownRemaining := rfl
@[simp] theorem setConfigured_timeoutPending (x : Word) (s : State) : (s.setConfigured x).timeoutPending = s.timeoutPending := rfl
@[simp] theorem setConfigured_rdata (x : Word) (s : State) : (s.setConfigured x).rdata = s.rdata := rfl
@[simp] theorem setConfigured_inputs (x : Word) (s : State) : (s.setConfigured x).inputs = s.inputs := rfl

/-! ### `State.setRemaining` -/

@[simp] theorem setRemaining_enabled (x : Word) (s : State) : (s.setRemaining x).enabled = s.enabled := rfl
@[simp] theorem setRemaining_started (x : Word) (s : State) : (s.setRemaining x).started = s.started := rfl
@[simp] theorem setRemaining_countdownConfigured (x : Word) (s : State) : (s.setRemaining x).countdownConfigured = s.countdownConfigured := rfl
@[simp] theorem setRemaining_countdownRemaining (x : Word) (s : State) : (s.setRemaining x).countdownRemaining = x := rfl
@[simp] theorem setRemaining_timeoutPending (x : Word) (s : State) : (s.setRemaining x).timeoutPending = s.timeoutPending := rfl
@[simp] theorem setRemaining_rdata (x : Word) (s : State) : (s.setRemaining x).rdata = s.rdata := rfl
@[simp] theorem setRemaining_inputs (x : Word) (s : State) : (s.setRemaining x).inputs = s.inputs := rfl

/-! ### `State.setTimeout` -/

@[simp] theorem setTimeout_enabled (x : Bool) (s : State) : (s.setTimeout x).enabled = s.enabled := rfl
@[simp] theorem setTimeout_started (x : Bool) (s : State) : (s.setTimeout x).started = s.started := rfl
@[simp] theorem setTimeout_countdownConfigured (x : Bool) (s : State) : (s.setTimeout x).countdownConfigured = s.countdownConfigured := rfl
@[simp] theorem setTimeout_countdownRemaining (x : Bool) (s : State) : (s.setTimeout x).countdownRemaining = s.countdownRemaining := rfl
@[simp] theorem setTimeout_timeoutPending (x : Bool) (s : State) : (s.setTimeout x).timeoutPending = x := rfl
@[simp] theorem setTimeout_rdata (x : Bool) (s : State) : (s.setTimeout x).rdata = s.rdata := rfl
@[simp] theorem setTimeout_inputs (x : Bool) (s : State) : (s.setTimeout x).inputs = s.inputs := rfl

/-! ### `State.setRdata` -/

@[simp] theorem setRdata_enabled (x : Word) (s : State) : (s.setRdata x).enabled = s.enabled := rfl
@[simp] theorem setRdata_started (x : Word) (s : State) : (s.setRdata x).started = s.started := rfl
@[simp] theorem setRdata_countdownConfigured (x : Word) (s : State) : (s.setRdata x).countdownConfigured = s.countdownConfigured := rfl
@[simp] theorem setRdata_countdownRemaining (x : Word) (s : State) : (s.setRdata x).countdownRemaining = s.countdownRemaining := rfl
@[simp] theorem setRdata_timeoutPending (x : Word) (s : State) : (s.setRdata x).timeoutPending = s.timeoutPending := rfl
@[simp] theorem setRdata_rdata (x : Word) (s : State) : (s.setRdata x).rdata = x := rfl
@[simp] theorem setRdata_inputs (x : Word) (s : State) : (s.setRdata x).inputs = s.inputs := rfl

/-! ### `State.setInputs` -/

@[simp] theorem setInputs_enabled (x : List CycleInput) (s : State) : (s.setInputs x).enabled = s.enabled := rfl
@[simp] theorem setInputs_started (x : List CycleInput) (s : State) : (s.setInputs x).started = s.started := rfl
@[simp] theorem setInputs_countdownConfigured (x : List CycleInput) (s : State) : (s.setInputs x).countdownConfigured = s.countdownConfigured := rfl
@[simp] theorem setInputs_countdownRemaining (x : List CycleInput) (s : State) : (s.setInputs x).countdownRemaining = s.countdownRemaining := rfl
@[simp] theorem setInputs_timeoutPending (x : List CycleInput) (s : State) : (s.setInputs x).timeoutPending = s.timeoutPending := rfl
@[simp] theorem setInputs_rdata (x : List CycleInput) (s : State) : (s.setInputs x).rdata = s.rdata := rfl
@[simp] theorem setInputs_inputs (x : List CycleInput) (s : State) : (s.setInputs x).inputs = x := rfl

/-! ### The host's inputs -/

@[simp] theorem takeInput_inputs (s : State) : (takeInput s).inputs = s.inputs.tail := rfl
@[simp] theorem presentInput_inputs (c : CycleInput) (s : State) : (presentInput c s).inputs = c :: s.inputs := rfl
@[simp] theorem nextInput_presentInput (c : CycleInput) (s : State) : nextInput (presentInput c s) = c := rfl
@[simp] theorem takeInput_presentInput (c : CycleInput) (s : State) : takeInput (presentInput c s) = s := rfl

/-- The first input waiting is the next one; an empty list is a cycle in which nothing is presented. -/
theorem nextInput_cases (s : State) :
    (s.inputs = [] ∧ nextInput s = ⟨false, none⟩) ∨ ∃ c rest, s.inputs = c :: rest ∧ nextInput s = c := by
  cases h : s.inputs with
  | nil => exact .inl ⟨rfl, by simp [nextInput, h]⟩
  | cons c rest => exact .inr ⟨c, rest, rfl, by simp [nextInput, h]⟩

end Sys2Proof.Laws
end

