-- ==== Sys2Proof/Laws/Ops.lean ====
section
/-!
SUPPORT. One lemma per shared operation that says everything it can do, and what each leaves unchanged; the provers cite
these instead of unfolding the operations.
-/

namespace Sys2Proof.Laws

open Sys2Proof.Machine

/-! ## Flags -/

theorem counterActive_iff (s : State) :
    counterActive s = true ↔ s.started = true ∧ s.countdownRemaining ≠ 0#32 := by
  simp [counterActive, Nat.pos_iff_ne_zero, ← BitVec.toNat_inj]

theorem zeroReload_iff (s : State) :
    zeroReload s = true ↔ s.started = true ∧ s.countdownRemaining = 0#32 ∧ s.timeoutPending = false := by
  simp [zeroReload, and_assoc]

theorem validTap_iff (v : Word) (s : State) :
    validTap v s = true ↔ s.enabled = true ∧ s.started = true ∧ v = 0x0000ABCD#32 := by
  simp [validTap, tapCode, and_assoc]

/-- A count above 0 is one more than the count less 1, so the decrement never borrows (R117). -/
theorem toNat_sub_one {w : Word} (h : w ≠ 0#32) : (w - 1#32).toNat + 1 = w.toNat := by
  have h' : w.toNat ≠ 0 := by simpa [← BitVec.toNat_inj] using h
  have := w.isLt
  simp only [BitVec.toNat_sub, BitVec.toNat_ofNat]
  omega

/-- The decrement reaches 0 exactly from 1. -/
theorem sub_one_eq_zero {w : Word} : w - 1#32 = 0#32 ↔ w = 1#32 := by
  constructor
  · intro h; simpa using congrArg (· + 1#32) h
  · rintro rfl; rfl

/-! ## Lanes and narrowing -/

/-- A byte write as a number: the low 8 bits are the byte, the rest is kept (R46, R83). -/
theorem mergeLanes_byte_toNat (old v : Word) :
    (mergeLanes .byte old v).toNat = old.toNat / 256 * 256 + v.toNat % 256 := by
  have h : (mergeLanes .byte old v).toNat = ((old.extractLsb' 8 24).toNat <<< 8) ||| (v.extractLsb' 0 8).toNat :=
    BitVec.toNat_append _ _
  have := old.isLt
  rw [h, ← Nat.shiftLeft_add_eq_or_of_lt (v.extractLsb' 0 8).isLt]
  simp only [BitVec.extractLsb'_toNat, Nat.shiftLeft_eq, Nat.shiftRight_eq_div_pow]
  omega

/-- A half-word write as a number: the low 16 bits are the half-word, the rest is kept (R46, R84). -/
theorem mergeLanes_half_toNat (old v : Word) :
    (mergeLanes .half old v).toNat = old.toNat / 65536 * 65536 + v.toNat % 65536 := by
  have h : (mergeLanes .half old v).toNat = ((old.extractLsb' 16 16).toNat <<< 16) ||| (v.extractLsb' 0 16).toNat :=
    BitVec.toNat_append _ _
  have := old.isLt
  rw [h, ← Nat.shiftLeft_add_eq_or_of_lt (v.extractLsb' 0 16).isLt]
  simp only [BitVec.extractLsb'_toNat, Nat.shiftLeft_eq, Nat.shiftRight_eq_div_pow]
  omega

/-- A word write replaces the whole register (R46, R85). -/
theorem mergeLanes_word (old v : Word) : mergeLanes .word old v = v := rfl

/-- A write of any width, bit by bit: the lanes of the width are the value's, the others are kept (R46). -/
theorem mergeLanes_getLsbD (w : Width) (old v : Word) (k : Nat) :
    (mergeLanes w old v).getLsbD k = if k < w.bits then v.getLsbD k else old.getLsbD k := by
  cases w with
  | byte =>
    refine BitVec.getLsbD_append.trans ?_
    by_cases h : k < 8
    · simp [Width.bits, h]
    · by_cases h' : k < 32
      · simp [Width.bits, h, show k - 8 < 24 by omega, show 8 + (k - 8) = k by omega]
      · simp [Width.bits, h, show ¬ k - 8 < 24 by omega, BitVec.getLsbD_of_ge old k (by omega)]
  | half =>
    refine BitVec.getLsbD_append.trans ?_
    by_cases h : k < 16
    · simp [Width.bits, h]
    · by_cases h' : k < 32
      · simp [Width.bits, h, show k - 16 < 16 by omega, show 16 + (k - 16) = k by omega]
      · simp [Width.bits, h, show ¬ k - 16 < 16 by omega, BitVec.getLsbD_of_ge old k (by omega)]
  | word =>
    by_cases h : k < 32
    · simp [mergeLanes, Width.bits, h]
    · simp [mergeLanes, Width.bits, h, BitVec.getLsbD_of_ge v k (by omega), BitVec.getLsbD_of_ge old k (by omega)]

/-- Read data as a number: the register modulo the access width (R47). -/
theorem narrow_toNat (w : Width) (v : Word) : (narrow w v).toNat = v.toNat % 2 ^ w.bits := by
  have := v.isLt
  cases w <;> simp [narrow, zext32, Width.bits] <;> omega

/-! ## Tick -/

/-- Everything a tick can do (R111 to R115): count down without expiring, expire, set the flag in the zero-reload state when
the parameter says so, or nothing. -/
theorem tickWith_cases (z : Bool) (s : State) :
    (s.started = true ∧ s.countdownRemaining ≠ 0#32 ∧ s.countdownRemaining ≠ 1#32 ∧
      tickWith z s = { s with countdownRemaining := s.countdownRemaining - 1#32 }) ∨
    (s.started = true ∧ s.countdownRemaining = 1#32 ∧
      tickWith z s = { s with countdownRemaining := 0#32, timeoutPending := true }) ∨
    (s.started = true ∧ s.countdownRemaining = 0#32 ∧
      tickWith z s = { s with timeoutPending := s.timeoutPending || z }) ∨
    (s.started = false ∧ tickWith z s = s) := by
  by_cases hs : s.started = true
  · by_cases h0 : s.countdownRemaining = 0#32
    · refine .inr (.inr (.inl ⟨hs, h0, ?_⟩))
      obtain ⟨en, st, cfg, rem, tp, rd, inp⟩ := s
      cases tp <;> cases z <;> simp_all [tickWith, counterActive, zeroReload, State.setTimeout]
    · have ha : counterActive s = true := (counterActive_iff s).mpr ⟨hs, h0⟩
      by_cases h1 : s.countdownRemaining = 1#32
      · refine .inr (.inl ⟨hs, h1, ?_⟩)
        simp [tickWith, ha, h1, State.setRemaining, State.setTimeout]
      · refine .inl ⟨hs, h0, h1, ?_⟩
        simp [tickWith, ha, sub_one_eq_zero, h1, State.setRemaining]
  · have hf : s.started = false := by simpa using hs
    exact .inr (.inr (.inr ⟨hf, by simp [tickWith, counterActive, zeroReload, hf]⟩))

/-- The same for the tick of this hardware, whatever its parameter is. -/
theorem tick_cases (s : State) :
    (s.started = true ∧ s.countdownRemaining ≠ 0#32 ∧ s.countdownRemaining ≠ 1#32 ∧
      tick s = { s with countdownRemaining := s.countdownRemaining - 1#32 }) ∨
    (s.started = true ∧ s.countdownRemaining = 1#32 ∧
      tick s = { s with countdownRemaining := 0#32, timeoutPending := true }) ∨
    (s.started = true ∧ s.countdownRemaining = 0#32 ∧
      tick s = { s with timeoutPending := s.timeoutPending || Config.zeroReloadExpires }) ∨
    (s.started = false ∧ tick s = s) :=
  tickWith_cases Config.zeroReloadExpires s

@[simp] theorem tickWith_enabled (z : Bool) (s : State) : (tickWith z s).enabled = s.enabled := by
  obtain ⟨-, -, -, h⟩ | ⟨-, -, h⟩ | ⟨-, -, h⟩ | ⟨-, h⟩ := tickWith_cases z s <;> rw [h]

@[simp] theorem tickWith_started (z : Bool) (s : State) : (tickWith z s).started = s.started := by
  obtain ⟨-, -, -, h⟩ | ⟨-, -, h⟩ | ⟨-, -, h⟩ | ⟨-, h⟩ := tickWith_cases z s <;> rw [h]

@[simp] theorem tickWith_configured (z : Bool) (s : State) :
    (tickWith z s).countdownConfigured = s.countdownConfigured := by
  obtain ⟨-, -, -, h⟩ | ⟨-, -, h⟩ | ⟨-, -, h⟩ | ⟨-, h⟩ := tickWith_cases z s <;> rw [h]

@[simp] theorem tickWith_rdata (z : Bool) (s : State) : (tickWith z s).rdata = s.rdata := by
  obtain ⟨-, -, -, h⟩ | ⟨-, -, h⟩ | ⟨-, -, h⟩ | ⟨-, h⟩ := tickWith_cases z s <;> rw [h]

@[simp] theorem tickWith_inputs (z : Bool) (s : State) : (tickWith z s).inputs = s.inputs := by
  obtain ⟨-, -, -, h⟩ | ⟨-, -, h⟩ | ⟨-, -, h⟩ | ⟨-, h⟩ := tickWith_cases z s <;> rw [h]

@[simp] theorem tick_enabled (s : State) : (tick s).enabled = s.enabled := tickWith_enabled _ s
@[simp] theorem tick_started (s : State) : (tick s).started = s.started := tickWith_started _ s
@[simp] theorem tick_configured (s : State) : (tick s).countdownConfigured = s.countdownConfigured :=
  tickWith_configured _ s
@[simp] theorem tick_rdata (s : State) : (tick s).rdata = s.rdata := tickWith_rdata _ s
@[simp] theorem tick_inputs (s : State) : (tick s).inputs = s.inputs := tickWith_inputs _ s

/-- A tick never clears the fault (R167). -/
theorem tick_keeps_timeout (s : State) (h : s.timeoutPending = true) : (tick s).timeoutPending = true := by
  obtain ⟨-, -, -, e⟩ | ⟨-, -, e⟩ | ⟨-, -, e⟩ | ⟨-, e⟩ := tick_cases s <;> rw [e] <;> simp [h]

/-! ## Reset -/

/-- Reset is `S0` in the five fields and leaves the model's own two (R118). -/
theorem resetAll_eq (s : State) : resetAll s = { State.reset with rdata := s.rdata, inputs := s.inputs } := rfl

/-- A reset cycle is `S0` with no read data (R192). -/
theorem resetCycle_eq (s : State) : resetCycle s = { State.reset with inputs := s.inputs } := rfl

/-! ## Register writes -/

/-- Everything an ENABLE write can do (R81). -/
theorem writeEnable_cases (v : Word) (s : State) :
    (v ≠ 0#32 ∧ writeEnable v s = { s with enabled := true }) ∨
    (v = 0#32 ∧ writeEnable v s = { s with enabled := false, started := false }) := by
  by_cases h : v = 0#32
  · exact .inr ⟨h, by simp [writeEnable, h, State.setEnabled, State.setStarted]⟩
  · exact .inl ⟨h, by simp [writeEnable, h, State.setEnabled]⟩

/-- Everything a START write can do (R82). -/
theorem writeStart_cases (v : Word) (s : State) :
    (s.countdownConfigured ≠ 0#32 ∧ writeStart v s =
      { s with enabled := true, started := true, countdownRemaining := s.countdownConfigured }) ∨
    (s.countdownConfigured = 0#32 ∧ writeStart v s = s) := by
  by_cases h : s.countdownConfigured = 0#32
  · exact .inr ⟨h, by simp [writeStart, h]⟩
  · exact .inl ⟨h, by simp [writeStart, h, reload, State.setEnabled, State.setStarted, State.setRemaining]⟩

/-- Everything a COUNTDOWN write can do (R83 to R85). -/
theorem writeCountdown_eq (w : Width) (v : Word) (s : State) :
    writeCountdown w v s = { s with countdownConfigured := mergeLanes w s.countdownConfigured v } := rfl

/-- Everything a TAP write can do (R86). -/
theorem writeTap_cases (v : Word) (s : State) :
    (s.enabled = true ∧ s.started = true ∧ v = 0x0000ABCD#32 ∧ writeTap v s =
      { s with countdownRemaining := s.countdownConfigured, timeoutPending := false }) ∨
    (¬ (s.enabled = true ∧ s.started = true ∧ v = 0x0000ABCD#32) ∧ writeTap v s = s) := by
  cases h : validTap v s with
  | true =>
    obtain ⟨h1, h2, h3⟩ := (validTap_iff v s).mp h
    exact .inl ⟨h1, h2, h3, by simp [writeTap, h, reload, State.setRemaining, State.setTimeout]⟩
  | false =>
    refine .inr ⟨fun h' => ?_, by simp [writeTap, h]⟩
    simp [(validTap_iff v s).mpr h'] at h

@[simp] theorem writeStatus_eq (v : Word) (s : State) : writeStatus v s = s := rfl
@[simp] theorem writeUnmapped_eq (v : Word) (s : State) : writeUnmapped v s = s := rfl

/-- `RegWrite` by selector (R80): one of the five registers' writes, or no change. -/
theorem regWrite_cases (addr : Nat) (w : Width) (v : Word) (s : State) :
    (addr = 0 ∧ regWrite addr w v s = writeEnable v s) ∨
    (addr = 1 ∧ regWrite addr w v s = writeStart v s) ∨
    (addr = 2 ∧ regWrite addr w v s = writeCountdown w v s) ∨
    (addr = 3 ∧ regWrite addr w v s = writeTap v s) ∨
    (4 ≤ addr ∧ regWrite addr w v s = s) := by
  match addr with
  | 0 => exact .inl ⟨rfl, rfl⟩
  | 1 => exact .inr (.inl ⟨rfl, rfl⟩)
  | 2 => exact .inr (.inr (.inl ⟨rfl, rfl⟩))
  | 3 => exact .inr (.inr (.inr (.inl ⟨rfl, rfl⟩)))
  | 4 => exact .inr (.inr (.inr (.inr ⟨by omega, rfl⟩)))
  | n + 5 => exact .inr (.inr (.inr (.inr ⟨by omega, rfl⟩)))

/-- No write touches the model's own two fields. -/
theorem regWrite_rdata_inputs (addr : Nat) (w : Width) (v : Word) (s : State) :
    (regWrite addr w v s).rdata = s.rdata ∧ (regWrite addr w v s).inputs = s.inputs := by
  obtain ⟨-, h⟩ | ⟨-, h⟩ | ⟨-, h⟩ | ⟨-, h⟩ | ⟨-, h⟩ := regWrite_cases addr w v s <;> rw [h]
  · obtain ⟨-, e⟩ | ⟨-, e⟩ := writeEnable_cases v s <;> simp [e]
  · obtain ⟨-, e⟩ | ⟨-, e⟩ := writeStart_cases v s <;> simp [e]
  · simp [writeCountdown_eq]
  · obtain ⟨-, -, -, e⟩ | ⟨-, e⟩ := writeTap_cases v s <;> simp [e]
  · simp

/-! ## Register reads -/

@[simp] theorem narrow_zero (w : Width) : narrow w 0#32 = 0#32 := by cases w <;> rfl

@[simp] theorem readEnable_eq (w : Width) (s : State) : readEnable w s = 0#32 := narrow_zero w
@[simp] theorem readStart_eq (w : Width) (s : State) : readStart w s = 0#32 := narrow_zero w
@[simp] theorem readTap_eq (w : Width) (s : State) : readTap w s = 0#32 := narrow_zero w
@[simp] theorem readUnmapped_eq (w : Width) (s : State) : readUnmapped w s = 0#32 := narrow_zero w

/-- STATUS reads the same number at every width (R104). -/
@[simp] theorem readStatus_eq (w : Width) (s : State) : readStatus w s = statusWord s := by
  simp only [readStatus, statusWord]
  generalize counterActive s = a, s.timeoutPending = b, s.started = c, s.enabled = d
  revert a b c d w
  intro a b c d w
  cases w <;> cases a <;> cases b <;> cases c <;> cases d <;> decide

/-- `RegRead` by selector (R100): the configured value at the width, the status bits, or 0. -/
theorem regRead_cases (addr : Nat) (w : Width) (s : State) :
    (addr = 2 ∧ regRead addr w s = narrow w s.countdownConfigured) ∨
    (addr = 4 ∧ regRead addr w s = statusWord s) ∨
    (addr ≠ 2 ∧ addr ≠ 4 ∧ regRead addr w s = 0#32) := by
  match addr with
  | 0 => exact .inr (.inr ⟨by omega, by omega, readEnable_eq w s⟩)
  | 1 => exact .inr (.inr ⟨by omega, by omega, readStart_eq w s⟩)
  | 2 => exact .inl ⟨rfl, rfl⟩
  | 3 => exact .inr (.inr ⟨by omega, by omega, readTap_eq w s⟩)
  | 4 => exact .inr (.inl ⟨rfl, readStatus_eq w s⟩)
  | n + 5 => exact .inr (.inr ⟨by omega, by omega, readUnmapped_eq w s⟩)

/-! ## Access -/

/-- Everything an access can do (R119): nine cases, each with the state it leaves. -/
theorem access_cases (t : Txn) (s : State) :
    (t.op = .read ∧ ∃ d, access t s = { s with rdata := d }) ∨
    (t.op = .write ∧ t.addr.toNat = 0 ∧ t.value ≠ 0#32 ∧ access t s = { s with enabled := true, rdata := 0#32 }) ∨
    (t.op = .write ∧ t.addr.toNat = 0 ∧ t.value = 0#32 ∧ access t s =
      { s with enabled := false, started := false, rdata := 0#32 }) ∨
    (t.op = .write ∧ t.addr.toNat = 1 ∧ s.countdownConfigured ≠ 0#32 ∧ access t s =
      { s with enabled := true, started := true, countdownRemaining := s.countdownConfigured, rdata := 0#32 }) ∨
    (t.op = .write ∧ t.addr.toNat = 1 ∧ s.countdownConfigured = 0#32 ∧ access t s = { s with rdata := 0#32 }) ∨
    (t.op = .write ∧ t.addr.toNat = 2 ∧ access t s =
      { s with countdownConfigured := mergeLanes t.width s.countdownConfigured t.value, rdata := 0#32 }) ∨
    (t.op = .write ∧ t.addr.toNat = 3 ∧ s.enabled = true ∧ s.started = true ∧ t.value = 0xABCD#32 ∧ access t s =
      { s with countdownRemaining := s.countdownConfigured, timeoutPending := false, rdata := 0#32 }) ∨
    (t.op = .write ∧ t.addr.toNat = 3 ∧ ¬ (s.enabled = true ∧ s.started = true ∧ t.value = 0xABCD#32) ∧ access t s =
      { s with rdata := 0#32 }) ∨
    (t.op = .write ∧ 4 ≤ t.addr.toNat ∧ access t s = { s with rdata := 0#32 }) := by
  cases ho : t.op with
  | read => exact .inl ⟨rfl, _, by simp only [access, ho]; rfl⟩
  | write =>
    right
    simp only [access, ho, true_and]
    obtain ⟨ha, e⟩ | ⟨ha, e⟩ | ⟨ha, e⟩ | ⟨ha, e⟩ | ⟨ha, e⟩ := regWrite_cases t.addr.toNat t.width t.value s <;> rw [e]
    · obtain ⟨h, e⟩ | ⟨h, e⟩ := writeEnable_cases t.value s <;> rw [e] <;> simp [ha, h, State.setRdata]
    · obtain ⟨h, e⟩ | ⟨h, e⟩ := writeStart_cases t.value s <;> rw [e] <;> simp [ha, h, State.setRdata]
    · simp [ha, State.setRdata, writeCountdown_eq]
    · obtain ⟨h1, h2, h3, e⟩ | ⟨h, e⟩ := writeTap_cases t.value s <;> rw [e]
      · simp [ha, State.setRdata, h1, h2, h3]
      · right; right; right; right; right; right; left; exact ⟨ha, h, rfl⟩
    · simp [State.setRdata, ha]

/-! ## Cycles -/

@[simp] theorem writeCycle_eq (f : State → State) (s : State) :
    writeCycle f s = { f (tick s) with rdata := 0#32 } := rfl

@[simp] theorem readCycle_eq (f : State → Word) (s : State) :
    readCycle f s = { tick s with rdata := f (tick s) } := rfl

@[simp] theorem idleCycle_eq (s : State) : idleCycle s = { tick s with rdata := 0#32 } := rfl

@[simp] theorem refusedCycle_eq (e : DecodeError) (s : State) : refusedCycle e s = idleCycle s := rfl

end Sys2Proof.Laws
end

