-- ==== Sys2Proof/Laws/PerInstr.lean ====
section
/-!
SUPPORT. The per-instruction family `RowOf`: the word the encoder gives a well-formed instruction belongs to that
instruction's own row of `opcode_table.json` (`30_encoding.md` R67). IDLE and RESET have no transaction word.
-/

namespace Sys2Proof.Laws

/-- Every transaction word that presents the well-formed instruction is a word of the row with its mnemonic. -/
def RowOf.Statement (i : Instr) : Prop :=
  i.WellFormed → ∀ t, (encode i).txn = some t → ∃ r ∈ opcodeTable, r.mnemonic = i.mnemonic ∧ r.hits t = true

theorem RowOf.wrBEnable (v : Byte) : RowOf.Statement (.wrBEnable v) := by
  intro _ t h
  cases h
  exact ⟨⟨"WR.B_ENABLE", 0x1FF00000000#41, 0x10000000000#41⟩, by simp [opcodeTable, writeRows], rfl,
    row_hits _ _ _ 1#1 0b00#2 0#6 _ (by decide) (by decide)⟩

theorem RowOf.wrHEnable (v : Half) : RowOf.Statement (.wrHEnable v) := by
  intro _ t h
  cases h
  exact ⟨⟨"WR.H_ENABLE", 0x1FF00000000#41, 0x14000000000#41⟩, by simp [opcodeTable, writeRows], rfl,
    row_hits _ _ _ 1#1 0b01#2 0#6 _ (by decide) (by decide)⟩

theorem RowOf.wrWEnable (v : Word) : RowOf.Statement (.wrWEnable v) := by
  intro _ t h
  cases h
  exact ⟨⟨"WR.W_ENABLE", 0x1FF00000000#41, 0x18000000000#41⟩, by simp [opcodeTable, writeRows], rfl,
    row_hits _ _ _ 1#1 0b10#2 0#6 _ (by decide) (by decide)⟩

theorem RowOf.wrBStart (v : Byte) : RowOf.Statement (.wrBStart v) := by
  intro _ t h
  cases h
  exact ⟨⟨"WR.B_START", 0x1FF00000000#41, 0x10100000000#41⟩, by simp [opcodeTable, writeRows], rfl,
    row_hits _ _ _ 1#1 0b00#2 1#6 _ (by decide) (by decide)⟩

theorem RowOf.wrHStart (v : Half) : RowOf.Statement (.wrHStart v) := by
  intro _ t h
  cases h
  exact ⟨⟨"WR.H_START", 0x1FF00000000#41, 0x14100000000#41⟩, by simp [opcodeTable, writeRows], rfl,
    row_hits _ _ _ 1#1 0b01#2 1#6 _ (by decide) (by decide)⟩

theorem RowOf.wrWStart (v : Word) : RowOf.Statement (.wrWStart v) := by
  intro _ t h
  cases h
  exact ⟨⟨"WR.W_START", 0x1FF00000000#41, 0x18100000000#41⟩, by simp [opcodeTable, writeRows], rfl,
    row_hits _ _ _ 1#1 0b10#2 1#6 _ (by decide) (by decide)⟩

theorem RowOf.wrBCountdown (v : Byte) : RowOf.Statement (.wrBCountdown v) := by
  intro _ t h
  cases h
  exact ⟨⟨"WR.B_COUNTDOWN", 0x1FF00000000#41, 0x10200000000#41⟩, by simp [opcodeTable, writeRows], rfl,
    row_hits _ _ _ 1#1 0b00#2 2#6 _ (by decide) (by decide)⟩

theorem RowOf.wrHCountdown (v : Half) : RowOf.Statement (.wrHCountdown v) := by
  intro _ t h
  cases h
  exact ⟨⟨"WR.H_COUNTDOWN", 0x1FF00000000#41, 0x14200000000#41⟩, by simp [opcodeTable, writeRows], rfl,
    row_hits _ _ _ 1#1 0b01#2 2#6 _ (by decide) (by decide)⟩

theorem RowOf.wrWCountdown (v : Word) : RowOf.Statement (.wrWCountdown v) := by
  intro _ t h
  cases h
  exact ⟨⟨"WR.W_COUNTDOWN", 0x1FF00000000#41, 0x18200000000#41⟩, by simp [opcodeTable, writeRows], rfl,
    row_hits _ _ _ 1#1 0b10#2 2#6 _ (by decide) (by decide)⟩

theorem RowOf.wrBTap (v : Byte) : RowOf.Statement (.wrBTap v) := by
  intro _ t h
  cases h
  exact ⟨⟨"WR.B_TAP", 0x1FF00000000#41, 0x10300000000#41⟩, by simp [opcodeTable, writeRows], rfl,
    row_hits _ _ _ 1#1 0b00#2 3#6 _ (by decide) (by decide)⟩

theorem RowOf.wrHTap (v : Half) : RowOf.Statement (.wrHTap v) := by
  intro _ t h
  cases h
  exact ⟨⟨"WR.H_TAP", 0x1FF00000000#41, 0x14300000000#41⟩, by simp [opcodeTable, writeRows], rfl,
    row_hits _ _ _ 1#1 0b01#2 3#6 _ (by decide) (by decide)⟩

theorem RowOf.wrWTap (v : Word) : RowOf.Statement (.wrWTap v) := by
  intro _ t h
  cases h
  exact ⟨⟨"WR.W_TAP", 0x1FF00000000#41, 0x18300000000#41⟩, by simp [opcodeTable, writeRows], rfl,
    row_hits _ _ _ 1#1 0b10#2 3#6 _ (by decide) (by decide)⟩

theorem RowOf.wrBStatus (v : Byte) : RowOf.Statement (.wrBStatus v) := by
  intro _ t h
  cases h
  exact ⟨⟨"WR.B_STATUS", 0x1FF00000000#41, 0x10400000000#41⟩, by simp [opcodeTable, writeRows], rfl,
    row_hits _ _ _ 1#1 0b00#2 4#6 _ (by decide) (by decide)⟩

theorem RowOf.wrHStatus (v : Half) : RowOf.Statement (.wrHStatus v) := by
  intro _ t h
  cases h
  exact ⟨⟨"WR.H_STATUS", 0x1FF00000000#41, 0x14400000000#41⟩, by simp [opcodeTable, writeRows], rfl,
    row_hits _ _ _ 1#1 0b01#2 4#6 _ (by decide) (by decide)⟩

theorem RowOf.wrWStatus (v : Word) : RowOf.Statement (.wrWStatus v) := by
  intro _ t h
  cases h
  exact ⟨⟨"WR.W_STATUS", 0x1FF00000000#41, 0x18400000000#41⟩, by simp [opcodeTable, writeRows], rfl,
    row_hits _ _ _ 1#1 0b10#2 4#6 _ (by decide) (by decide)⟩

theorem RowOf.wrBUnmapped5 (v : Byte) : RowOf.Statement (.wrBUnmapped5 v) := by
  intro _ t h
  cases h
  exact ⟨⟨"WR.B_UNMAPPED_5..5", 0x1FF00000000#41, 0x10500000000#41⟩, by simp [opcodeTable, writeUnmappedRows], rfl,
    row_hits _ _ _ 1#1 0b00#2 5#6 _ (by decide) (by decide)⟩

theorem RowOf.wrHUnmapped5 (v : Half) : RowOf.Statement (.wrHUnmapped5 v) := by
  intro _ t h
  cases h
  exact ⟨⟨"WR.H_UNMAPPED_5..5", 0x1FF00000000#41, 0x14500000000#41⟩, by simp [opcodeTable, writeUnmappedRows], rfl,
    row_hits _ _ _ 1#1 0b01#2 5#6 _ (by decide) (by decide)⟩

theorem RowOf.wrWUnmapped5 (v : Word) : RowOf.Statement (.wrWUnmapped5 v) := by
  intro _ t h
  cases h
  exact ⟨⟨"WR.W_UNMAPPED_5..5", 0x1FF00000000#41, 0x18500000000#41⟩, by simp [opcodeTable, writeUnmappedRows], rfl,
    row_hits _ _ _ 1#1 0b10#2 5#6 _ (by decide) (by decide)⟩

theorem RowOf.wrBUnmapped6To7 (addr : Addr) (v : Byte) : RowOf.Statement (.wrBUnmapped6To7 addr v) := by
  intro hwf t h
  cases h
  exact ⟨⟨"WR.B_UNMAPPED_6..7", 0x1FE00000000#41, 0x10600000000#41⟩, by simp [opcodeTable, writeUnmappedRows], rfl,
    row_hits_range _ _ _ 1#1 0b00#2 _ 62#6 6#6 _ 6 7 (by decide) (by decide) hwf (by decide)⟩

theorem RowOf.wrHUnmapped6To7 (addr : Addr) (v : Half) : RowOf.Statement (.wrHUnmapped6To7 addr v) := by
  intro hwf t h
  cases h
  exact ⟨⟨"WR.H_UNMAPPED_6..7", 0x1FE00000000#41, 0x14600000000#41⟩, by simp [opcodeTable, writeUnmappedRows], rfl,
    row_hits_range _ _ _ 1#1 0b01#2 _ 62#6 6#6 _ 6 7 (by decide) (by decide) hwf (by decide)⟩

theorem RowOf.wrWUnmapped6To7 (addr : Addr) (v : Word) : RowOf.Statement (.wrWUnmapped6To7 addr v) := by
  intro hwf t h
  cases h
  exact ⟨⟨"WR.W_UNMAPPED_6..7", 0x1FE00000000#41, 0x18600000000#41⟩, by simp [opcodeTable, writeUnmappedRows], rfl,
    row_hits_range _ _ _ 1#1 0b10#2 _ 62#6 6#6 _ 6 7 (by decide) (by decide) hwf (by decide)⟩

theorem RowOf.wrBUnmapped8To15 (addr : Addr) (v : Byte) : RowOf.Statement (.wrBUnmapped8To15 addr v) := by
  intro hwf t h
  cases h
  exact ⟨⟨"WR.B_UNMAPPED_8..15", 0x1F800000000#41, 0x10800000000#41⟩, by simp [opcodeTable, writeUnmappedRows], rfl,
    row_hits_range _ _ _ 1#1 0b00#2 _ 56#6 8#6 _ 8 15 (by decide) (by decide) hwf (by decide)⟩

theorem RowOf.wrHUnmapped8To15 (addr : Addr) (v : Half) : RowOf.Statement (.wrHUnmapped8To15 addr v) := by
  intro hwf t h
  cases h
  exact ⟨⟨"WR.H_UNMAPPED_8..15", 0x1F800000000#41, 0x14800000000#41⟩, by simp [opcodeTable, writeUnmappedRows], rfl,
    row_hits_range _ _ _ 1#1 0b01#2 _ 56#6 8#6 _ 8 15 (by decide) (by decide) hwf (by decide)⟩

theorem RowOf.wrWUnmapped8To15 (addr : Addr) (v : Word) : RowOf.Statement (.wrWUnmapped8To15 addr v) := by
  intro hwf t h
  cases h
  exact ⟨⟨"WR.W_UNMAPPED_8..15", 0x1F800000000#41, 0x18800000000#41⟩, by simp [opcodeTable, writeUnmappedRows], rfl,
    row_hits_range _ _ _ 1#1 0b10#2 _ 56#6 8#6 _ 8 15 (by decide) (by decide) hwf (by decide)⟩

theorem RowOf.wrBUnmapped16To31 (addr : Addr) (v : Byte) : RowOf.Statement (.wrBUnmapped16To31 addr v) := by
  intro hwf t h
  cases h
  exact ⟨⟨"WR.B_UNMAPPED_16..31", 0x1F000000000#41, 0x11000000000#41⟩, by simp [opcodeTable, writeUnmappedRows], rfl,
    row_hits_range _ _ _ 1#1 0b00#2 _ 48#6 16#6 _ 16 31 (by decide) (by decide) hwf (by decide)⟩

theorem RowOf.wrHUnmapped16To31 (addr : Addr) (v : Half) : RowOf.Statement (.wrHUnmapped16To31 addr v) := by
  intro hwf t h
  cases h
  exact ⟨⟨"WR.H_UNMAPPED_16..31", 0x1F000000000#41, 0x15000000000#41⟩, by simp [opcodeTable, writeUnmappedRows], rfl,
    row_hits_range _ _ _ 1#1 0b01#2 _ 48#6 16#6 _ 16 31 (by decide) (by decide) hwf (by decide)⟩

theorem RowOf.wrWUnmapped16To31 (addr : Addr) (v : Word) : RowOf.Statement (.wrWUnmapped16To31 addr v) := by
  intro hwf t h
  cases h
  exact ⟨⟨"WR.W_UNMAPPED_16..31", 0x1F000000000#41, 0x19000000000#41⟩, by simp [opcodeTable, writeUnmappedRows], rfl,
    row_hits_range _ _ _ 1#1 0b10#2 _ 48#6 16#6 _ 16 31 (by decide) (by decide) hwf (by decide)⟩

theorem RowOf.wrBUnmapped32To63 (addr : Addr) (v : Byte) : RowOf.Statement (.wrBUnmapped32To63 addr v) := by
  intro hwf t h
  cases h
  exact ⟨⟨"WR.B_UNMAPPED_32..63", 0x1E000000000#41, 0x12000000000#41⟩, by simp [opcodeTable, writeUnmappedRows], rfl,
    row_hits_range _ _ _ 1#1 0b00#2 _ 32#6 32#6 _ 32 63 (by decide) (by decide) hwf (by decide)⟩

theorem RowOf.wrHUnmapped32To63 (addr : Addr) (v : Half) : RowOf.Statement (.wrHUnmapped32To63 addr v) := by
  intro hwf t h
  cases h
  exact ⟨⟨"WR.H_UNMAPPED_32..63", 0x1E000000000#41, 0x16000000000#41⟩, by simp [opcodeTable, writeUnmappedRows], rfl,
    row_hits_range _ _ _ 1#1 0b01#2 _ 32#6 32#6 _ 32 63 (by decide) (by decide) hwf (by decide)⟩

theorem RowOf.wrWUnmapped32To63 (addr : Addr) (v : Word) : RowOf.Statement (.wrWUnmapped32To63 addr v) := by
  intro hwf t h
  cases h
  exact ⟨⟨"WR.W_UNMAPPED_32..63", 0x1E000000000#41, 0x1A000000000#41⟩, by simp [opcodeTable, writeUnmappedRows], rfl,
    row_hits_range _ _ _ 1#1 0b10#2 _ 32#6 32#6 _ 32 63 (by decide) (by decide) hwf (by decide)⟩

theorem RowOf.rdBEnable : RowOf.Statement (.rdBEnable) := by
  intro _ t h
  cases h
  exact ⟨⟨"RD.B_ENABLE", 0x1FF00000000#41, 0x00000000000#41⟩, by simp [opcodeTable, readRows], rfl,
    row_hits _ _ _ 0#1 0b00#2 0#6 _ (by decide) (by decide)⟩

theorem RowOf.rdHEnable : RowOf.Statement (.rdHEnable) := by
  intro _ t h
  cases h
  exact ⟨⟨"RD.H_ENABLE", 0x1FF00000000#41, 0x04000000000#41⟩, by simp [opcodeTable, readRows], rfl,
    row_hits _ _ _ 0#1 0b01#2 0#6 _ (by decide) (by decide)⟩

theorem RowOf.rdWEnable : RowOf.Statement (.rdWEnable) := by
  intro _ t h
  cases h
  exact ⟨⟨"RD.W_ENABLE", 0x1FF00000000#41, 0x08000000000#41⟩, by simp [opcodeTable, readRows], rfl,
    row_hits _ _ _ 0#1 0b10#2 0#6 _ (by decide) (by decide)⟩

theorem RowOf.rdBStart : RowOf.Statement (.rdBStart) := by
  intro _ t h
  cases h
  exact ⟨⟨"RD.B_START", 0x1FF00000000#41, 0x00100000000#41⟩, by simp [opcodeTable, readRows], rfl,
    row_hits _ _ _ 0#1 0b00#2 1#6 _ (by decide) (by decide)⟩

theorem RowOf.rdHStart : RowOf.Statement (.rdHStart) := by
  intro _ t h
  cases h
  exact ⟨⟨"RD.H_START", 0x1FF00000000#41, 0x04100000000#41⟩, by simp [opcodeTable, readRows], rfl,
    row_hits _ _ _ 0#1 0b01#2 1#6 _ (by decide) (by decide)⟩

theorem RowOf.rdWStart : RowOf.Statement (.rdWStart) := by
  intro _ t h
  cases h
  exact ⟨⟨"RD.W_START", 0x1FF00000000#41, 0x08100000000#41⟩, by simp [opcodeTable, readRows], rfl,
    row_hits _ _ _ 0#1 0b10#2 1#6 _ (by decide) (by decide)⟩

theorem RowOf.rdBCountdown : RowOf.Statement (.rdBCountdown) := by
  intro _ t h
  cases h
  exact ⟨⟨"RD.B_COUNTDOWN", 0x1FF00000000#41, 0x00200000000#41⟩, by simp [opcodeTable, readRows], rfl,
    row_hits _ _ _ 0#1 0b00#2 2#6 _ (by decide) (by decide)⟩

theorem RowOf.rdHCountdown : RowOf.Statement (.rdHCountdown) := by
  intro _ t h
  cases h
  exact ⟨⟨"RD.H_COUNTDOWN", 0x1FF00000000#41, 0x04200000000#41⟩, by simp [opcodeTable, readRows], rfl,
    row_hits _ _ _ 0#1 0b01#2 2#6 _ (by decide) (by decide)⟩

theorem RowOf.rdWCountdown : RowOf.Statement (.rdWCountdown) := by
  intro _ t h
  cases h
  exact ⟨⟨"RD.W_COUNTDOWN", 0x1FF00000000#41, 0x08200000000#41⟩, by simp [opcodeTable, readRows], rfl,
    row_hits _ _ _ 0#1 0b10#2 2#6 _ (by decide) (by decide)⟩

theorem RowOf.rdBTap : RowOf.Statement (.rdBTap) := by
  intro _ t h
  cases h
  exact ⟨⟨"RD.B_TAP", 0x1FF00000000#41, 0x00300000000#41⟩, by simp [opcodeTable, readRows], rfl,
    row_hits _ _ _ 0#1 0b00#2 3#6 _ (by decide) (by decide)⟩

theorem RowOf.rdHTap : RowOf.Statement (.rdHTap) := by
  intro _ t h
  cases h
  exact ⟨⟨"RD.H_TAP", 0x1FF00000000#41, 0x04300000000#41⟩, by simp [opcodeTable, readRows], rfl,
    row_hits _ _ _ 0#1 0b01#2 3#6 _ (by decide) (by decide)⟩

theorem RowOf.rdWTap : RowOf.Statement (.rdWTap) := by
  intro _ t h
  cases h
  exact ⟨⟨"RD.W_TAP", 0x1FF00000000#41, 0x08300000000#41⟩, by simp [opcodeTable, readRows], rfl,
    row_hits _ _ _ 0#1 0b10#2 3#6 _ (by decide) (by decide)⟩

theorem RowOf.rdBStatus : RowOf.Statement (.rdBStatus) := by
  intro _ t h
  cases h
  exact ⟨⟨"RD.B_STATUS", 0x1FF00000000#41, 0x00400000000#41⟩, by simp [opcodeTable, readRows], rfl,
    row_hits _ _ _ 0#1 0b00#2 4#6 _ (by decide) (by decide)⟩

theorem RowOf.rdHStatus : RowOf.Statement (.rdHStatus) := by
  intro _ t h
  cases h
  exact ⟨⟨"RD.H_STATUS", 0x1FF00000000#41, 0x04400000000#41⟩, by simp [opcodeTable, readRows], rfl,
    row_hits _ _ _ 0#1 0b01#2 4#6 _ (by decide) (by decide)⟩

theorem RowOf.rdWStatus : RowOf.Statement (.rdWStatus) := by
  intro _ t h
  cases h
  exact ⟨⟨"RD.W_STATUS", 0x1FF00000000#41, 0x08400000000#41⟩, by simp [opcodeTable, readRows], rfl,
    row_hits _ _ _ 0#1 0b10#2 4#6 _ (by decide) (by decide)⟩

theorem RowOf.rdBUnmapped5 : RowOf.Statement (.rdBUnmapped5) := by
  intro _ t h
  cases h
  exact ⟨⟨"RD.B_UNMAPPED_5..5", 0x1FF00000000#41, 0x00500000000#41⟩, by simp [opcodeTable, readUnmappedRows], rfl,
    row_hits _ _ _ 0#1 0b00#2 5#6 _ (by decide) (by decide)⟩

theorem RowOf.rdHUnmapped5 : RowOf.Statement (.rdHUnmapped5) := by
  intro _ t h
  cases h
  exact ⟨⟨"RD.H_UNMAPPED_5..5", 0x1FF00000000#41, 0x04500000000#41⟩, by simp [opcodeTable, readUnmappedRows], rfl,
    row_hits _ _ _ 0#1 0b01#2 5#6 _ (by decide) (by decide)⟩

theorem RowOf.rdWUnmapped5 : RowOf.Statement (.rdWUnmapped5) := by
  intro _ t h
  cases h
  exact ⟨⟨"RD.W_UNMAPPED_5..5", 0x1FF00000000#41, 0x08500000000#41⟩, by simp [opcodeTable, readUnmappedRows], rfl,
    row_hits _ _ _ 0#1 0b10#2 5#6 _ (by decide) (by decide)⟩

theorem RowOf.rdBUnmapped6To7 (addr : Addr) : RowOf.Statement (.rdBUnmapped6To7 addr) := by
  intro hwf t h
  cases h
  exact ⟨⟨"RD.B_UNMAPPED_6..7", 0x1FE00000000#41, 0x00600000000#41⟩, by simp [opcodeTable, readUnmappedRows], rfl,
    row_hits_range _ _ _ 0#1 0b00#2 _ 62#6 6#6 _ 6 7 (by decide) (by decide) hwf (by decide)⟩

theorem RowOf.rdHUnmapped6To7 (addr : Addr) : RowOf.Statement (.rdHUnmapped6To7 addr) := by
  intro hwf t h
  cases h
  exact ⟨⟨"RD.H_UNMAPPED_6..7", 0x1FE00000000#41, 0x04600000000#41⟩, by simp [opcodeTable, readUnmappedRows], rfl,
    row_hits_range _ _ _ 0#1 0b01#2 _ 62#6 6#6 _ 6 7 (by decide) (by decide) hwf (by decide)⟩

theorem RowOf.rdWUnmapped6To7 (addr : Addr) : RowOf.Statement (.rdWUnmapped6To7 addr) := by
  intro hwf t h
  cases h
  exact ⟨⟨"RD.W_UNMAPPED_6..7", 0x1FE00000000#41, 0x08600000000#41⟩, by simp [opcodeTable, readUnmappedRows], rfl,
    row_hits_range _ _ _ 0#1 0b10#2 _ 62#6 6#6 _ 6 7 (by decide) (by decide) hwf (by decide)⟩

theorem RowOf.rdBUnmapped8To15 (addr : Addr) : RowOf.Statement (.rdBUnmapped8To15 addr) := by
  intro hwf t h
  cases h
  exact ⟨⟨"RD.B_UNMAPPED_8..15", 0x1F800000000#41, 0x00800000000#41⟩, by simp [opcodeTable, readUnmappedRows], rfl,
    row_hits_range _ _ _ 0#1 0b00#2 _ 56#6 8#6 _ 8 15 (by decide) (by decide) hwf (by decide)⟩

theorem RowOf.rdHUnmapped8To15 (addr : Addr) : RowOf.Statement (.rdHUnmapped8To15 addr) := by
  intro hwf t h
  cases h
  exact ⟨⟨"RD.H_UNMAPPED_8..15", 0x1F800000000#41, 0x04800000000#41⟩, by simp [opcodeTable, readUnmappedRows], rfl,
    row_hits_range _ _ _ 0#1 0b01#2 _ 56#6 8#6 _ 8 15 (by decide) (by decide) hwf (by decide)⟩

theorem RowOf.rdWUnmapped8To15 (addr : Addr) : RowOf.Statement (.rdWUnmapped8To15 addr) := by
  intro hwf t h
  cases h
  exact ⟨⟨"RD.W_UNMAPPED_8..15", 0x1F800000000#41, 0x08800000000#41⟩, by simp [opcodeTable, readUnmappedRows], rfl,
    row_hits_range _ _ _ 0#1 0b10#2 _ 56#6 8#6 _ 8 15 (by decide) (by decide) hwf (by decide)⟩

theorem RowOf.rdBUnmapped16To31 (addr : Addr) : RowOf.Statement (.rdBUnmapped16To31 addr) := by
  intro hwf t h
  cases h
  exact ⟨⟨"RD.B_UNMAPPED_16..31", 0x1F000000000#41, 0x01000000000#41⟩, by simp [opcodeTable, readUnmappedRows], rfl,
    row_hits_range _ _ _ 0#1 0b00#2 _ 48#6 16#6 _ 16 31 (by decide) (by decide) hwf (by decide)⟩

theorem RowOf.rdHUnmapped16To31 (addr : Addr) : RowOf.Statement (.rdHUnmapped16To31 addr) := by
  intro hwf t h
  cases h
  exact ⟨⟨"RD.H_UNMAPPED_16..31", 0x1F000000000#41, 0x05000000000#41⟩, by simp [opcodeTable, readUnmappedRows], rfl,
    row_hits_range _ _ _ 0#1 0b01#2 _ 48#6 16#6 _ 16 31 (by decide) (by decide) hwf (by decide)⟩

theorem RowOf.rdWUnmapped16To31 (addr : Addr) : RowOf.Statement (.rdWUnmapped16To31 addr) := by
  intro hwf t h
  cases h
  exact ⟨⟨"RD.W_UNMAPPED_16..31", 0x1F000000000#41, 0x09000000000#41⟩, by simp [opcodeTable, readUnmappedRows], rfl,
    row_hits_range _ _ _ 0#1 0b10#2 _ 48#6 16#6 _ 16 31 (by decide) (by decide) hwf (by decide)⟩

theorem RowOf.rdBUnmapped32To63 (addr : Addr) : RowOf.Statement (.rdBUnmapped32To63 addr) := by
  intro hwf t h
  cases h
  exact ⟨⟨"RD.B_UNMAPPED_32..63", 0x1E000000000#41, 0x02000000000#41⟩, by simp [opcodeTable, readUnmappedRows], rfl,
    row_hits_range _ _ _ 0#1 0b00#2 _ 32#6 32#6 _ 32 63 (by decide) (by decide) hwf (by decide)⟩

theorem RowOf.rdHUnmapped32To63 (addr : Addr) : RowOf.Statement (.rdHUnmapped32To63 addr) := by
  intro hwf t h
  cases h
  exact ⟨⟨"RD.H_UNMAPPED_32..63", 0x1E000000000#41, 0x06000000000#41⟩, by simp [opcodeTable, readUnmappedRows], rfl,
    row_hits_range _ _ _ 0#1 0b01#2 _ 32#6 32#6 _ 32 63 (by decide) (by decide) hwf (by decide)⟩

theorem RowOf.rdWUnmapped32To63 (addr : Addr) : RowOf.Statement (.rdWUnmapped32To63 addr) := by
  intro hwf t h
  cases h
  exact ⟨⟨"RD.W_UNMAPPED_32..63", 0x1E000000000#41, 0x0A000000000#41⟩, by simp [opcodeTable, readUnmappedRows], rfl,
    row_hits_range _ _ _ 0#1 0b10#2 _ 32#6 32#6 _ 32 63 (by decide) (by decide) hwf (by decide)⟩

theorem RowOf.idle : RowOf.Statement (.idle) := by
  intro _ t h
  simp [encode, Instr.txn] at h

theorem RowOf.reset : RowOf.Statement (.reset) := by
  intro _ t h
  simp [encode, Instr.txn] at h

end Sys2Proof.Laws
end

