-- ==== Sys2Proof/Laws/Step.lean ====
section
/-!
SUPPORT. What an instruction can do, said once for all of them, and one step of a run.
-/

namespace Sys2Proof.Laws

open Sys2Proof.Machine Sys2Proof.Safety

/-- Every instruction answers a next state: `S0` for RESET, and else the tick's state, either with new read data alone or
with the fields its register write changes (R120). -/
theorem exec_cases (i : Instr) (s : State) : ∃ t, exec i s = .next t ∧
    ((i = .reset ∧ t = { State.reset with inputs := s.inputs }) ∨
     (i ≠ .reset ∧ (∃ d, t = { tick s with rdata := d })) ∨
     (i ≠ .reset ∧ writesTo 0 i = true ∧ valueOf i ≠ 0#32 ∧ t = { tick s with enabled := true, rdata := 0#32 }) ∨
     (i ≠ .reset ∧ writesTo 0 i = true ∧ valueOf i = 0#32 ∧ t =
        { tick s with enabled := false, started := false, rdata := 0#32 }) ∨
     (i ≠ .reset ∧ writesTo 1 i = true ∧ s.countdownConfigured ≠ 0#32 ∧ t =
        { tick s with enabled := true, started := true, countdownRemaining := s.countdownConfigured, rdata := 0#32 }) ∨
     (i ≠ .reset ∧ writesTo 2 i = true ∧ (∃ x, i.txn = some x ∧ t =
        { tick s with countdownConfigured := mergeLanes x.width s.countdownConfigured x.value, rdata := 0#32 })) ∨
     (i ≠ .reset ∧ writesTo 3 i = true ∧ valueOf i = 0xABCD#32 ∧ s.enabled = true ∧ s.started = true ∧ t =
        { tick s with countdownRemaining := s.countdownConfigured, timeoutPending := false, rdata := 0#32 })) := by
  have E (i : Instr) (v : Word) (hi : i ≠ .reset) (hw : writesTo 0 i = true) (hv : valueOf i = v) :
     (i ≠ .reset ∧ writesTo 0 i = true ∧ valueOf i ≠ 0#32 ∧ writeCycle (writeEnable v) s =
        { tick s with enabled := true, rdata := 0#32 }) ∨
     (i ≠ .reset ∧ writesTo 0 i = true ∧ valueOf i = 0#32 ∧ writeCycle (writeEnable v) s =
        { tick s with enabled := false, started := false, rdata := 0#32 }) := by
    obtain ⟨h, e⟩ | ⟨h, e⟩ := writeEnable_cases v (tick s) <;> rw [writeCycle_eq, e]
    · exact .inl ⟨hi, hw, hv ▸ h, rfl⟩
    · exact .inr ⟨hi, hw, hv ▸ h, rfl⟩
  have S (i : Instr) (v : Word) (hi : i ≠ .reset) (hw : writesTo 1 i = true) :
     (i ≠ .reset ∧ (∃ d, writeCycle (writeStart v) s = { tick s with rdata := d })) ∨
     (i ≠ .reset ∧ writesTo 1 i = true ∧ s.countdownConfigured ≠ 0#32 ∧ writeCycle (writeStart v) s =
        { tick s with enabled := true, started := true, countdownRemaining := s.countdownConfigured, rdata := 0#32 }) := by
    obtain ⟨h, e⟩ | ⟨-, e⟩ := writeStart_cases v (tick s) <;> rw [writeCycle_eq, e]
    · rw [tick_configured] at h; exact .inr ⟨hi, hw, h, by simp⟩
    · exact .inl ⟨hi, _, rfl⟩
  have T (i : Instr) (v : Word) (hi : i ≠ .reset) (hw : writesTo 3 i = true) (hv : valueOf i = v) :
     (i ≠ .reset ∧ (∃ d, writeCycle (writeTap v) s = { tick s with rdata := d })) ∨
     (i ≠ .reset ∧ writesTo 3 i = true ∧ valueOf i = 0xABCD#32 ∧ s.enabled = true ∧ s.started = true ∧ writeCycle (writeTap v) s =
        { tick s with countdownRemaining := s.countdownConfigured, timeoutPending := false, rdata := 0#32 }) := by
    obtain ⟨h1, h2, h3, e⟩ | ⟨-, e⟩ := writeTap_cases v (tick s) <;> rw [writeCycle_eq, e]
    · exact .inr ⟨hi, hw, hv.trans h3, by simpa using h1, by simpa using h2, by simp⟩
    · exact .inl ⟨hi, _, rfl⟩
  cases i
  case wrBEnable v => exact ⟨_, rfl, (E (.wrBEnable v) (zext32 v) (by simp) rfl (rfl)).elim
      (fun h => .inr (.inr (.inl h))) (fun h => .inr (.inr (.inr (.inl h))))⟩
  case wrBStart v => exact ⟨_, rfl, (S (.wrBStart v) (zext32 v) (by simp) rfl).elim
      (fun h => .inr (.inl h)) (fun h => .inr (.inr (.inr (.inr (.inl h)))))⟩
  case wrBCountdown v => exact ⟨_, rfl, .inr (.inr (.inr (.inr (.inr (.inl ⟨by simp, rfl, _, rfl, by simp [writeCountdown_eq, zext32]⟩)))))⟩
  case wrBTap v => exact ⟨_, rfl, (T (.wrBTap v) (zext32 v) (by simp) rfl (rfl)).elim
      (fun h => .inr (.inl h)) (fun h => .inr (.inr (.inr (.inr (.inr (.inr h))))))⟩
  case wrHEnable v => exact ⟨_, rfl, (E (.wrHEnable v) (zext32 v) (by simp) rfl (rfl)).elim
      (fun h => .inr (.inr (.inl h))) (fun h => .inr (.inr (.inr (.inl h))))⟩
  case wrHStart v => exact ⟨_, rfl, (S (.wrHStart v) (zext32 v) (by simp) rfl).elim
      (fun h => .inr (.inl h)) (fun h => .inr (.inr (.inr (.inr (.inl h)))))⟩
  case wrHCountdown v => exact ⟨_, rfl, .inr (.inr (.inr (.inr (.inr (.inl ⟨by simp, rfl, _, rfl, by simp [writeCountdown_eq, zext32]⟩)))))⟩
  case wrHTap v => exact ⟨_, rfl, (T (.wrHTap v) (zext32 v) (by simp) rfl (rfl)).elim
      (fun h => .inr (.inl h)) (fun h => .inr (.inr (.inr (.inr (.inr (.inr h))))))⟩
  case wrWEnable v => exact ⟨_, rfl, (E (.wrWEnable v) (zext32 v) (by simp) rfl (by simp [valueOf, Instr.txn, zext32])).elim
      (fun h => .inr (.inr (.inl h))) (fun h => .inr (.inr (.inr (.inl h))))⟩
  case wrWStart v => exact ⟨_, rfl, (S (.wrWStart v) (zext32 v) (by simp) rfl).elim
      (fun h => .inr (.inl h)) (fun h => .inr (.inr (.inr (.inr (.inl h)))))⟩
  case wrWCountdown v => exact ⟨_, rfl, .inr (.inr (.inr (.inr (.inr (.inl ⟨by simp, rfl, _, rfl, by simp [writeCountdown_eq, zext32]⟩)))))⟩
  case wrWTap v => exact ⟨_, rfl, (T (.wrWTap v) (zext32 v) (by simp) rfl (by simp [valueOf, Instr.txn, zext32])).elim
      (fun h => .inr (.inl h)) (fun h => .inr (.inr (.inr (.inr (.inr (.inr h))))))⟩
  all_goals refine ⟨_, rfl, ?_⟩
  all_goals first
    | exact .inr (.inl ⟨by simp, _, rfl⟩)
    | exact .inl ⟨rfl, rfl⟩

/-- A run whose first step answers a next state goes on from it. -/
theorem run_succ (k : Nat) (s t : State) (h : step s = .next t) :
    Host.Core.run core (k + 1) s = Host.Core.run core k t := by
  have h : core.step s = .next t := h
  simp only [Host.Core.run, h]

/-- The events of two sequences, one after the other. -/
theorem runEvents_append (es es' : List Event) : ∀ s, runEvents (es ++ es') s = runEvents es' (runEvents es s) := by
  induction es with
  | nil => exact fun s => rfl
  | cons e es ih => exact fun s => ih (e.apply s)

end Sys2Proof.Laws
end

