-- ==== Sys2Proof/Tests/Slice0.lean ====
section
/-!
SUPPORT. The model's own tests. Every expected result comes from the spec: the words from the bit patterns of the operation
map (`30_encoding.md` R62, R67), the results from the vectors of `95_test_vectors.md`, named by their ids. States are
written as that file writes them: (enabled, started, countdown_configured, countdown_remaining, timeout_pending).
-/

namespace Sys2Proof.Tests

open Sys2Proof.Machine Sys2Proof.Safety

/-! ## Helpers -/

/-- A state from the five fields of the spec's notation, with no read data and no input waiting. -/
def mk (en st : Bool) (cfg rem : Word) (tp : Bool) : State where
  enabled := en
  started := st
  countdownConfigured := cfg
  countdownRemaining := rem
  timeoutPending := tp
  rdata := 0#32
  inputs := []

/-- The next state of an outcome, if it is one. -/
def next? : Host.Outcome State Fault Refusal → Option State
  | .next s => some s
  | .fault _ => none
  | .refused _ => none

/-- The primitive `Access` on a transaction word (R119), none where the word is refused. -/
def accessWord (w : TxnWord) (s : State) : Option State :=
  match w.unpack with
  | .ok t => some (access t s)
  | .error _ => none

/-- One cycle of the machine with the host presenting this word. -/
def stepWord (w : TxnWord) (s : State) : Option State := next? (step (presentInput ⟨false, some w⟩ s))

/-- One idle cycle of the machine. -/
def stepIdle (s : State) : Option State := next? (step (presentInput ⟨false, none⟩ s))

/-- One cycle of the machine with the reset input high and this transaction presented. -/
def stepReset (t : Option TxnWord) (s : State) : Option State := next? (step (presentInput ⟨true, t⟩ s))

/-- The state with this read data. -/
def out (d : Word) (s : State) : State := s.setRdata d

/-- A decoded word, refused or not, is this instruction. -/
def isInstr (w : TxnWord) (i : Instr) : Bool :=
  match decode w with
  | .ok j => j == i
  | .error _ => false

/-! ## Well-formedness: a term that each check refuses -/

theorem test_wf_wr_unmapped_6_7 :
    ¬ Instr.WellFormed (.wrBUnmapped6To7 5#6 0#8) ∧
    ¬ Instr.WellFormed (.wrBUnmapped6To7 8#6 0#8) ∧
    Instr.WellFormed (.wrBUnmapped6To7 6#6 0#8) ∧
    Instr.WellFormed (.wrBUnmapped6To7 7#6 0#8) ∧
    ¬ Instr.WellFormed (.wrHUnmapped6To7 5#6 0#16) ∧
    ¬ Instr.WellFormed (.wrHUnmapped6To7 8#6 0#16) ∧
    Instr.WellFormed (.wrHUnmapped6To7 6#6 0#16) ∧
    Instr.WellFormed (.wrHUnmapped6To7 7#6 0#16) ∧
    ¬ Instr.WellFormed (.wrWUnmapped6To7 5#6 0#32) ∧
    ¬ Instr.WellFormed (.wrWUnmapped6To7 8#6 0#32) ∧
    Instr.WellFormed (.wrWUnmapped6To7 6#6 0#32) ∧
    Instr.WellFormed (.wrWUnmapped6To7 7#6 0#32) := by decide

theorem test_wf_rd_unmapped_6_7 :
    ¬ Instr.WellFormed (.rdBUnmapped6To7 5#6) ∧
    ¬ Instr.WellFormed (.rdBUnmapped6To7 8#6) ∧
    Instr.WellFormed (.rdBUnmapped6To7 6#6) ∧
    Instr.WellFormed (.rdBUnmapped6To7 7#6) ∧
    ¬ Instr.WellFormed (.rdHUnmapped6To7 5#6) ∧
    ¬ Instr.WellFormed (.rdHUnmapped6To7 8#6) ∧
    Instr.WellFormed (.rdHUnmapped6To7 6#6) ∧
    Instr.WellFormed (.rdHUnmapped6To7 7#6) ∧
    ¬ Instr.WellFormed (.rdWUnmapped6To7 5#6) ∧
    ¬ Instr.WellFormed (.rdWUnmapped6To7 8#6) ∧
    Instr.WellFormed (.rdWUnmapped6To7 6#6) ∧
    Instr.WellFormed (.rdWUnmapped6To7 7#6) := by decide

theorem test_wf_wr_unmapped_8_15 :
    ¬ Instr.WellFormed (.wrBUnmapped8To15 7#6 0#8) ∧
    ¬ Instr.WellFormed (.wrBUnmapped8To15 16#6 0#8) ∧
    Instr.WellFormed (.wrBUnmapped8To15 8#6 0#8) ∧
    Instr.WellFormed (.wrBUnmapped8To15 15#6 0#8) ∧
    ¬ Instr.WellFormed (.wrHUnmapped8To15 7#6 0#16) ∧
    ¬ Instr.WellFormed (.wrHUnmapped8To15 16#6 0#16) ∧
    Instr.WellFormed (.wrHUnmapped8To15 8#6 0#16) ∧
    Instr.WellFormed (.wrHUnmapped8To15 15#6 0#16) ∧
    ¬ Instr.WellFormed (.wrWUnmapped8To15 7#6 0#32) ∧
    ¬ Instr.WellFormed (.wrWUnmapped8To15 16#6 0#32) ∧
    Instr.WellFormed (.wrWUnmapped8To15 8#6 0#32) ∧
    Instr.WellFormed (.wrWUnmapped8To15 15#6 0#32) := by decide

theorem test_wf_rd_unmapped_8_15 :
    ¬ Instr.WellFormed (.rdBUnmapped8To15 7#6) ∧
    ¬ Instr.WellFormed (.rdBUnmapped8To15 16#6) ∧
    Instr.WellFormed (.rdBUnmapped8To15 8#6) ∧
    Instr.WellFormed (.rdBUnmapped8To15 15#6) ∧
    ¬ Instr.WellFormed (.rdHUnmapped8To15 7#6) ∧
    ¬ Instr.WellFormed (.rdHUnmapped8To15 16#6) ∧
    Instr.WellFormed (.rdHUnmapped8To15 8#6) ∧
    Instr.WellFormed (.rdHUnmapped8To15 15#6) ∧
    ¬ Instr.WellFormed (.rdWUnmapped8To15 7#6) ∧
    ¬ Instr.WellFormed (.rdWUnmapped8To15 16#6) ∧
    Instr.WellFormed (.rdWUnmapped8To15 8#6) ∧
    Instr.WellFormed (.rdWUnmapped8To15 15#6) := by decide

theorem test_wf_wr_unmapped_16_31 :
    ¬ Instr.WellFormed (.wrBUnmapped16To31 15#6 0#8) ∧
    ¬ Instr.WellFormed (.wrBUnmapped16To31 32#6 0#8) ∧
    Instr.WellFormed (.wrBUnmapped16To31 16#6 0#8) ∧
    Instr.WellFormed (.wrBUnmapped16To31 31#6 0#8) ∧
    ¬ Instr.WellFormed (.wrHUnmapped16To31 15#6 0#16) ∧
    ¬ Instr.WellFormed (.wrHUnmapped16To31 32#6 0#16) ∧
    Instr.WellFormed (.wrHUnmapped16To31 16#6 0#16) ∧
    Instr.WellFormed (.wrHUnmapped16To31 31#6 0#16) ∧
    ¬ Instr.WellFormed (.wrWUnmapped16To31 15#6 0#32) ∧
    ¬ Instr.WellFormed (.wrWUnmapped16To31 32#6 0#32) ∧
    Instr.WellFormed (.wrWUnmapped16To31 16#6 0#32) ∧
    Instr.WellFormed (.wrWUnmapped16To31 31#6 0#32) := by decide

theorem test_wf_rd_unmapped_16_31 :
    ¬ Instr.WellFormed (.rdBUnmapped16To31 15#6) ∧
    ¬ Instr.WellFormed (.rdBUnmapped16To31 32#6) ∧
    Instr.WellFormed (.rdBUnmapped16To31 16#6) ∧
    Instr.WellFormed (.rdBUnmapped16To31 31#6) ∧
    ¬ Instr.WellFormed (.rdHUnmapped16To31 15#6) ∧
    ¬ Instr.WellFormed (.rdHUnmapped16To31 32#6) ∧
    Instr.WellFormed (.rdHUnmapped16To31 16#6) ∧
    Instr.WellFormed (.rdHUnmapped16To31 31#6) ∧
    ¬ Instr.WellFormed (.rdWUnmapped16To31 15#6) ∧
    ¬ Instr.WellFormed (.rdWUnmapped16To31 32#6) ∧
    Instr.WellFormed (.rdWUnmapped16To31 16#6) ∧
    Instr.WellFormed (.rdWUnmapped16To31 31#6) := by decide

theorem test_wf_wr_unmapped_32_63 :
    ¬ Instr.WellFormed (.wrBUnmapped32To63 31#6 0#8) ∧
    ¬ Instr.WellFormed (.wrBUnmapped32To63 0#6 0#8) ∧
    Instr.WellFormed (.wrBUnmapped32To63 32#6 0#8) ∧
    Instr.WellFormed (.wrBUnmapped32To63 63#6 0#8) ∧
    ¬ Instr.WellFormed (.wrHUnmapped32To63 31#6 0#16) ∧
    ¬ Instr.WellFormed (.wrHUnmapped32To63 0#6 0#16) ∧
    Instr.WellFormed (.wrHUnmapped32To63 32#6 0#16) ∧
    Instr.WellFormed (.wrHUnmapped32To63 63#6 0#16) ∧
    ¬ Instr.WellFormed (.wrWUnmapped32To63 31#6 0#32) ∧
    ¬ Instr.WellFormed (.wrWUnmapped32To63 0#6 0#32) ∧
    Instr.WellFormed (.wrWUnmapped32To63 32#6 0#32) ∧
    Instr.WellFormed (.wrWUnmapped32To63 63#6 0#32) := by decide

theorem test_wf_rd_unmapped_32_63 :
    ¬ Instr.WellFormed (.rdBUnmapped32To63 31#6) ∧
    ¬ Instr.WellFormed (.rdBUnmapped32To63 0#6) ∧
    Instr.WellFormed (.rdBUnmapped32To63 32#6) ∧
    Instr.WellFormed (.rdBUnmapped32To63 63#6) ∧
    ¬ Instr.WellFormed (.rdHUnmapped32To63 31#6) ∧
    ¬ Instr.WellFormed (.rdHUnmapped32To63 0#6) ∧
    Instr.WellFormed (.rdHUnmapped32To63 32#6) ∧
    Instr.WellFormed (.rdHUnmapped32To63 63#6) ∧
    ¬ Instr.WellFormed (.rdWUnmapped32To63 31#6) ∧
    ¬ Instr.WellFormed (.rdWUnmapped32To63 0#6) ∧
    Instr.WellFormed (.rdWUnmapped32To63 32#6) ∧
    Instr.WellFormed (.rdWUnmapped32To63 63#6) := by decide

/-! ## Decoding: one word of every row, written from its bit pattern (R62, R67), with data bits above the width set -/

theorem test_decode_write_enable :
    isInstr 0x100A5C396F1#41 (.wrBEnable 0xF1#8) ∧
    isInstr 0x140A5C396F1#41 (.wrHEnable 0x96F1#16) ∧
    isInstr 0x180A5C396F1#41 (.wrWEnable 0xA5C396F1#32) := by decide

theorem test_decode_write_start :
    isInstr 0x101A5C396F1#41 (.wrBStart 0xF1#8) ∧
    isInstr 0x141A5C396F1#41 (.wrHStart 0x96F1#16) ∧
    isInstr 0x181A5C396F1#41 (.wrWStart 0xA5C396F1#32) := by decide

theorem test_decode_write_countdown :
    isInstr 0x102A5C396F1#41 (.wrBCountdown 0xF1#8) ∧
    isInstr 0x142A5C396F1#41 (.wrHCountdown 0x96F1#16) ∧
    isInstr 0x182A5C396F1#41 (.wrWCountdown 0xA5C396F1#32) := by decide

theorem test_decode_write_tap :
    isInstr 0x103A5C396F1#41 (.wrBTap 0xF1#8) ∧
    isInstr 0x143A5C396F1#41 (.wrHTap 0x96F1#16) ∧
    isInstr 0x183A5C396F1#41 (.wrWTap 0xA5C396F1#32) := by decide

theorem test_decode_write_status :
    isInstr 0x104A5C396F1#41 (.wrBStatus 0xF1#8) ∧
    isInstr 0x144A5C396F1#41 (.wrHStatus 0x96F1#16) ∧
    isInstr 0x184A5C396F1#41 (.wrWStatus 0xA5C396F1#32) := by decide

theorem test_decode_write_unmapped_5_5 :
    isInstr 0x105A5C396F1#41 (.wrBUnmapped5 0xF1#8) ∧
    isInstr 0x145A5C396F1#41 (.wrHUnmapped5 0x96F1#16) ∧
    isInstr 0x185A5C396F1#41 (.wrWUnmapped5 0xA5C396F1#32) := by decide

theorem test_decode_write_unmapped_6_7 :
    isInstr 0x107A5C396F1#41 (.wrBUnmapped6To7 7#6 0xF1#8) ∧
    isInstr 0x147A5C396F1#41 (.wrHUnmapped6To7 7#6 0x96F1#16) ∧
    isInstr 0x187A5C396F1#41 (.wrWUnmapped6To7 7#6 0xA5C396F1#32) := by decide

theorem test_decode_write_unmapped_8_15 :
    isInstr 0x10FA5C396F1#41 (.wrBUnmapped8To15 15#6 0xF1#8) ∧
    isInstr 0x14FA5C396F1#41 (.wrHUnmapped8To15 15#6 0x96F1#16) ∧
    isInstr 0x18FA5C396F1#41 (.wrWUnmapped8To15 15#6 0xA5C396F1#32) := by decide

theorem test_decode_write_unmapped_16_31 :
    isInstr 0x11FA5C396F1#41 (.wrBUnmapped16To31 31#6 0xF1#8) ∧
    isInstr 0x15FA5C396F1#41 (.wrHUnmapped16To31 31#6 0x96F1#16) ∧
    isInstr 0x19FA5C396F1#41 (.wrWUnmapped16To31 31#6 0xA5C396F1#32) := by decide

theorem test_decode_write_unmapped_32_63 :
    isInstr 0x13FA5C396F1#41 (.wrBUnmapped32To63 63#6 0xF1#8) ∧
    isInstr 0x17FA5C396F1#41 (.wrHUnmapped32To63 63#6 0x96F1#16) ∧
    isInstr 0x1BFA5C396F1#41 (.wrWUnmapped32To63 63#6 0xA5C396F1#32) := by decide

theorem test_decode_read_enable :
    isInstr 0x000A5C396F1#41 (.rdBEnable) ∧
    isInstr 0x040A5C396F1#41 (.rdHEnable) ∧
    isInstr 0x080A5C396F1#41 (.rdWEnable) := by decide

theorem test_decode_read_start :
    isInstr 0x001A5C396F1#41 (.rdBStart) ∧
    isInstr 0x041A5C396F1#41 (.rdHStart) ∧
    isInstr 0x081A5C396F1#41 (.rdWStart) := by decide

theorem test_decode_read_countdown :
    isInstr 0x002A5C396F1#41 (.rdBCountdown) ∧
    isInstr 0x042A5C396F1#41 (.rdHCountdown) ∧
    isInstr 0x082A5C396F1#41 (.rdWCountdown) := by decide

theorem test_decode_read_tap :
    isInstr 0x003A5C396F1#41 (.rdBTap) ∧
    isInstr 0x043A5C396F1#41 (.rdHTap) ∧
    isInstr 0x083A5C396F1#41 (.rdWTap) := by decide

theorem test_decode_read_status :
    isInstr 0x004A5C396F1#41 (.rdBStatus) ∧
    isInstr 0x044A5C396F1#41 (.rdHStatus) ∧
    isInstr 0x084A5C396F1#41 (.rdWStatus) := by decide

theorem test_decode_read_unmapped_5_5 :
    isInstr 0x005A5C396F1#41 (.rdBUnmapped5) ∧
    isInstr 0x045A5C396F1#41 (.rdHUnmapped5) ∧
    isInstr 0x085A5C396F1#41 (.rdWUnmapped5) := by decide

theorem test_decode_read_unmapped_6_7 :
    isInstr 0x007A5C396F1#41 (.rdBUnmapped6To7 7#6) ∧
    isInstr 0x047A5C396F1#41 (.rdHUnmapped6To7 7#6) ∧
    isInstr 0x087A5C396F1#41 (.rdWUnmapped6To7 7#6) := by decide

theorem test_decode_read_unmapped_8_15 :
    isInstr 0x00FA5C396F1#41 (.rdBUnmapped8To15 15#6) ∧
    isInstr 0x04FA5C396F1#41 (.rdHUnmapped8To15 15#6) ∧
    isInstr 0x08FA5C396F1#41 (.rdWUnmapped8To15 15#6) := by decide

theorem test_decode_read_unmapped_16_31 :
    isInstr 0x01FA5C396F1#41 (.rdBUnmapped16To31 31#6) ∧
    isInstr 0x05FA5C396F1#41 (.rdHUnmapped16To31 31#6) ∧
    isInstr 0x09FA5C396F1#41 (.rdWUnmapped16To31 31#6) := by decide

theorem test_decode_read_unmapped_32_63 :
    isInstr 0x03FA5C396F1#41 (.rdBUnmapped32To63 63#6) ∧
    isInstr 0x07FA5C396F1#41 (.rdHUnmapped32To63 63#6) ∧
    isInstr 0x0BFA5C396F1#41 (.rdWUnmapped32To63 63#6) := by decide

/-- The event rows, in the table's own bit numbering: `00` is IDLE, `1v` is RESET (R67, R74). -/
theorem test_decode_events :
    decodeTableWord 2 0 = some .idle ∧ decodeTableWord 8 0 = some .idle ∧
    decodeTableWord 2 2 = some .reset ∧ decodeTableWord 8 3 = some .reset := by decide

/-- A transaction row in the table's numbering; the table's 41 bits in whole bytes are 48. -/
theorem test_decode_table_word :
    decodeTableWord 48 0x1430000ABCD = some (.wrHTap 0xABCD#16) ∧
    decodeTableWord 48 0x00400000000 = some .rdBStatus ∧ decodeTableWord 48 0x1C30000ABCD = none := by decide

/-- `wc = 11` is refused by name, whatever the other bits (R64). -/
theorem test_decode_reserved :
    (match decode 0x1C30000ABCD#41 with | .error e => e == .reservedWidthCode | .ok _ => false) = true ∧
    (match decode 0x0FFFFFFFFFF#41 with | .error e => e == .reservedWidthCode | .ok _ => false) = true := by decide

/-- The data field of a read word is ignored (R66). -/
theorem test_decode_read_data_ignored : isInstr 0x084DEADBEEF#41 .rdWStatus ∧ isInstr 0x08400000000#41 .rdWStatus := by
  decide

/-- The encoder writes the words of section 5, program B. -/
theorem test_encode_words :
    (encode (.wrWCountdown 0x11223344#32)).txn = some 0x18211223344#41 ∧
    (encode (.wrHCountdown 0#16)).txn = some 0x14200000000#41 ∧
    (encode (.wrBCountdown 4#8)).txn = some 0x10200000004#41 ∧
    (encode (.wrBStart 0#8)).txn = some 0x10100000000#41 ∧
    (encode (.wrHTap 0xABCD#16)).txn = some 0x1430000ABCD#41 ∧
    (encode .rdBStatus).txn = some 0x00400000000#41 ∧
    encode .idle = ⟨false, none⟩ ∧ encode .reset = ⟨true, none⟩ := by decide

/-! ## Section 2.1: register writes, primitive level -/

/-- W1 to W6: enable, enable again, disable, the sticky fault, any nonzero half-word, a byte of a nonzero word. -/
theorem test_W1_W6_enable :
    accessWord 0x10000000001#41 (mk false false 0#32 0#32 false) = some (mk true false 0#32 0#32 false) ∧
      statusWord (mk true false 0#32 0#32 false) = 0x1#32 ∧
    accessWord 0x10000000001#41 (mk true true 5#32 3#32 false) = some (mk true true 5#32 3#32 false) ∧
      statusWord (mk true true 5#32 3#32 false) = 0xB#32 ∧
    accessWord 0x10000000000#41 (mk true true 5#32 3#32 false) = some (mk false false 5#32 3#32 false) ∧
      statusWord (mk false false 5#32 3#32 false) = 0x0#32 ∧
    accessWord 0x18000000000#41 (mk true true 5#32 0#32 true) = some (mk false false 5#32 0#32 true) ∧
      statusWord (mk false false 5#32 0#32 true) = 0x4#32 ∧
    accessWord 0x14000000100#41 (mk false false 5#32 3#32 true) = some (mk true false 5#32 3#32 true) ∧
      statusWord (mk true false 5#32 3#32 true) = 0x5#32 ∧
    accessWord 0x10000000100#41 (mk false false 5#32 3#32 true) = some (mk false false 5#32 3#32 true) ∧
      statusWord (mk false false 5#32 3#32 true) = 0x4#32 := by decide

/-- W7 to W13: reload, value ignored, zero configuration, restart, fault kept, C3, from ARMED. -/
theorem test_W7_W13_start :
    accessWord 0x10100000001#41 (mk false false 5#32 0#32 false) = some (mk true true 5#32 5#32 false) ∧
      statusWord (mk true true 5#32 5#32 false) = 0xB#32 ∧
    accessWord 0x18100000000#41 (mk false false 5#32 0#32 false) = some (mk true true 5#32 5#32 false) ∧
      statusWord (mk true true 5#32 5#32 false) = 0xB#32 ∧
    accessWord 0x10100000001#41 (mk false false 0#32 0#32 false) = some (mk false false 0#32 0#32 false) ∧
      statusWord (mk false false 0#32 0#32 false) = 0x0#32 ∧
    accessWord 0x10100000001#41 (mk true true 5#32 2#32 false) = some (mk true true 5#32 5#32 false) ∧
      statusWord (mk true true 5#32 5#32 false) = 0xB#32 ∧
    accessWord 0x10100000001#41 (mk true true 5#32 0#32 true) = some (mk true true 5#32 5#32 true) ∧
      statusWord (mk true true 5#32 5#32 true) = 0xF#32 ∧
    accessWord 0x10100000001#41 (mk true true 0#32 3#32 false) = some (mk true true 0#32 3#32 false) ∧
      statusWord (mk true true 0#32 3#32 false) = 0xB#32 ∧
    accessWord 0x10100000001#41 (mk true false 7#32 0#32 true) = some (mk true true 7#32 7#32 true) ∧
      statusWord (mk true true 7#32 7#32 true) = 0xF#32 := by decide

/-- W14 to W19: the three widths, the running count, zero while started, data bit 8 of a byte. -/
theorem test_W14_W19_countdown :
    accessWord 0x102000000AA#41 (mk false false 0x11223344#32 0#32 false) = some (mk false false 0x112233AA#32 0#32 false) ∧
      statusWord (mk false false 0x112233AA#32 0#32 false) = 0x0#32 ∧
    accessWord 0x1420000BEEF#41 (mk false false 0x11223344#32 0#32 false) = some (mk false false 0x1122BEEF#32 0#32 false) ∧
      statusWord (mk false false 0x1122BEEF#32 0#32 false) = 0x0#32 ∧
    accessWord 0x182CAFEF00D#41 (mk false false 0x11223344#32 0#32 false) = some (mk false false 0xCAFEF00D#32 0#32 false) ∧
      statusWord (mk false false 0xCAFEF00D#32 0#32 false) = 0x0#32 ∧
    accessWord 0x18200000009#41 (mk true true 5#32 3#32 false) = some (mk true true 9#32 3#32 false) ∧
      statusWord (mk true true 9#32 3#32 false) = 0xB#32 ∧
    accessWord 0x18200000000#41 (mk true true 5#32 3#32 false) = some (mk true true 0#32 3#32 false) ∧
      statusWord (mk true true 0#32 3#32 false) = 0xB#32 ∧
    accessWord 0x102000001FF#41 (mk false false 0#32 0#32 false) = some (mk false false 0xFF#32 0#32 false) ∧
      statusWord (mk false false 0xFF#32 0#32 false) = 0x0#32 := by decide

/-- W20 to W25: valid half-word and word taps, wrong upper halves, a byte. -/
theorem test_W20_W25_tap :
    accessWord 0x1430000ABCD#41 (mk true true 5#32 2#32 false) = some (mk true true 5#32 5#32 false) ∧
      statusWord (mk true true 5#32 5#32 false) = 0xB#32 ∧
    accessWord 0x1430000ABCD#41 (mk true true 5#32 0#32 true) = some (mk true true 5#32 5#32 false) ∧
      statusWord (mk true true 5#32 5#32 false) = 0xB#32 ∧
    accessWord 0x1830000ABCD#41 (mk true true 5#32 0#32 true) = some (mk true true 5#32 5#32 false) ∧
      statusWord (mk true true 5#32 5#32 false) = 0xB#32 ∧
    accessWord 0x1831234ABCD#41 (mk true true 5#32 0#32 true) = some (mk true true 5#32 0#32 true) ∧
      statusWord (mk true true 5#32 0#32 true) = 0x7#32 ∧
    accessWord 0x183ABCD0000#41 (mk true true 5#32 0#32 true) = some (mk true true 5#32 0#32 true) ∧
      statusWord (mk true true 5#32 0#32 true) = 0x7#32 ∧
    accessWord 0x103000000CD#41 (mk true true 5#32 0#32 true) = some (mk true true 5#32 0#32 true) ∧
      statusWord (mk true true 5#32 0#32 true) = 0x7#32 := by decide

/-- W26 to W31: wrong codes, OFF, ARMED, zero configuration, from STATUS 15. -/
theorem test_W26_W31_tap :
    accessWord 0x14300001234#41 (mk true true 5#32 2#32 false) = some (mk true true 5#32 2#32 false) ∧
      statusWord (mk true true 5#32 2#32 false) = 0xB#32 ∧
    accessWord 0x1430000ABCE#41 (mk true true 5#32 0#32 true) = some (mk true true 5#32 0#32 true) ∧
      statusWord (mk true true 5#32 0#32 true) = 0x7#32 ∧
    accessWord 0x1430000ABCD#41 (mk false false 5#32 0#32 true) = some (mk false false 5#32 0#32 true) ∧
      statusWord (mk false false 5#32 0#32 true) = 0x4#32 ∧
    accessWord 0x1430000ABCD#41 (mk true false 5#32 0#32 true) = some (mk true false 5#32 0#32 true) ∧
      statusWord (mk true false 5#32 0#32 true) = 0x5#32 ∧
    accessWord 0x1430000ABCD#41 (mk true true 0#32 2#32 false) = some (mk true true 0#32 0#32 false) ∧
      statusWord (mk true true 0#32 0#32 false) = 0x3#32 ∧
    accessWord 0x1430000ABCD#41 (mk true true 9#32 2#32 true) = some (mk true true 9#32 9#32 false) ∧
      statusWord (mk true true 9#32 9#32 false) = 0xB#32 := by decide

/-- W32 to W35: STATUS and unmapped writes. -/
theorem test_W32_W35_no_effect :
    accessWord 0x18400000000#41 (mk true true 5#32 0#32 true) = some (mk true true 5#32 0#32 true) ∧
      statusWord (mk true true 5#32 0#32 true) = 0x7#32 ∧
    accessWord 0x1840000000F#41 (mk true true 5#32 0#32 true) = some (mk true true 5#32 0#32 true) ∧
      statusWord (mk true true 5#32 0#32 true) = 0x7#32 ∧
    accessWord 0x18500000001#41 (mk true true 5#32 0#32 true) = some (mk true true 5#32 0#32 true) ∧
      statusWord (mk true true 5#32 0#32 true) = 0x7#32 ∧
    accessWord 0x13F000000FF#41 (mk true true 5#32 3#32 false) = some (mk true true 5#32 3#32 false) ∧
      statusWord (mk true true 5#32 3#32 false) = 0xB#32 := by decide

/-! ## Section 2.2: register reads, primitive level -/

/-- RD1 to RD6: the three widths, no sign extension, the configured value and not the count. -/
theorem test_RD1_RD6_countdown :
    accessWord 0x08200000000#41 (mk false false 0x11220004#32 0#32 false) = some (out 0x11220004#32 (mk false false 0x11220004#32 0#32 false)) ∧
    accessWord 0x04200000000#41 (mk false false 0x11220004#32 0#32 false) = some (out 0x00000004#32 (mk false false 0x11220004#32 0#32 false)) ∧
    accessWord 0x00200000000#41 (mk false false 0x11220004#32 0#32 false) = some (out 0x00000004#32 (mk false false 0x11220004#32 0#32 false)) ∧
    accessWord 0x04200000000#41 (mk false false 0xCAFEF00D#32 0#32 false) = some (out 0x0000F00D#32 (mk false false 0xCAFEF00D#32 0#32 false)) ∧
    accessWord 0x00200000000#41 (mk false false 0xCAFEF00D#32 0#32 false) = some (out 0x0000000D#32 (mk false false 0xCAFEF00D#32 0#32 false)) ∧
    accessWord 0x08200000000#41 (mk true true 9#32 3#32 false) = some (out 0x00000009#32 (mk true true 9#32 3#32 false)) := by decide

/-- RD7 to RD17: each reachable value, a leftover count, the three widths. -/
theorem test_RD7_RD17_status :
    accessWord 0x08400000000#41 (mk false false 0#32 0#32 false) = some (out 0x00000000#32 (mk false false 0#32 0#32 false)) ∧
    accessWord 0x08400000000#41 (mk true false 0#32 0#32 false) = some (out 0x00000001#32 (mk true false 0#32 0#32 false)) ∧
    accessWord 0x08400000000#41 (mk true true 5#32 5#32 false) = some (out 0x0000000B#32 (mk true true 5#32 5#32 false)) ∧
    accessWord 0x08400000000#41 (mk true true 5#32 0#32 true) = some (out 0x00000007#32 (mk true true 5#32 0#32 true)) ∧
    accessWord 0x08400000000#41 (mk false false 5#32 0#32 true) = some (out 0x00000004#32 (mk false false 5#32 0#32 true)) ∧
    accessWord 0x08400000000#41 (mk true false 5#32 0#32 true) = some (out 0x00000005#32 (mk true false 5#32 0#32 true)) ∧
    accessWord 0x08400000000#41 (mk true true 5#32 5#32 true) = some (out 0x0000000F#32 (mk true true 5#32 5#32 true)) ∧
    accessWord 0x08400000000#41 (mk true true 0#32 0#32 false) = some (out 0x00000003#32 (mk true true 0#32 0#32 false)) ∧
    accessWord 0x08400000000#41 (mk true false 5#32 3#32 false) = some (out 0x00000001#32 (mk true false 5#32 3#32 false)) ∧
    accessWord 0x00400000000#41 (mk true true 5#32 5#32 true) = some (out 0x0000000F#32 (mk true true 5#32 5#32 true)) ∧
    accessWord 0x04400000000#41 (mk true true 5#32 5#32 true) = some (out 0x0000000F#32 (mk true true 5#32 5#32 true)) := by decide

/-- RD18 to RD22: write-only registers and unmapped selectors. -/
theorem test_RD18_RD22_zero :
    accessWord 0x08000000000#41 (mk true true 5#32 5#32 true) = some (out 0x00000000#32 (mk true true 5#32 5#32 true)) ∧
    accessWord 0x04100000000#41 (mk true true 5#32 5#32 true) = some (out 0x00000000#32 (mk true true 5#32 5#32 true)) ∧
    accessWord 0x00300000000#41 (mk true true 5#32 5#32 true) = some (out 0x00000000#32 (mk true true 5#32 5#32 true)) ∧
    accessWord 0x08500000000#41 (mk true true 5#32 5#32 true) = some (out 0x00000000#32 (mk true true 5#32 5#32 true)) ∧
    accessWord 0x0BF00000000#41 (mk true true 5#32 5#32 true) = some (out 0x00000000#32 (mk true true 5#32 5#32 true)) := by decide

/-! ## Section 2.3: the tick -/

/-- T1 to T6, T9, T10: the same for both values of the open parameter. -/
theorem test_T_either :
    tickWith false (mk true true 5#32 3#32 false) = (mk true true 5#32 2#32 false) ∧
    tickWith true (mk true true 5#32 3#32 false) = (mk true true 5#32 2#32 false) ∧
    tick (mk true true 5#32 3#32 false) = (mk true true 5#32 2#32 false) ∧
      statusWord (mk true true 5#32 2#32 false) = 0xB#32 ∧ irq (mk true true 5#32 2#32 false) = false ∧
    tickWith false (mk true true 5#32 1#32 false) = (mk true true 5#32 0#32 true) ∧
    tickWith true (mk true true 5#32 1#32 false) = (mk true true 5#32 0#32 true) ∧
    tick (mk true true 5#32 1#32 false) = (mk true true 5#32 0#32 true) ∧
      statusWord (mk true true 5#32 0#32 true) = 0x7#32 ∧ irq (mk true true 5#32 0#32 true) = true ∧
    tickWith false (mk true true 5#32 1#32 true) = (mk true true 5#32 0#32 true) ∧
    tickWith true (mk true true 5#32 1#32 true) = (mk true true 5#32 0#32 true) ∧
    tick (mk true true 5#32 1#32 true) = (mk true true 5#32 0#32 true) ∧
      statusWord (mk true true 5#32 0#32 true) = 0x7#32 ∧ irq (mk true true 5#32 0#32 true) = true ∧
    tickWith false (mk true true 5#32 0#32 true) = (mk true true 5#32 0#32 true) ∧
    tickWith true (mk true true 5#32 0#32 true) = (mk true true 5#32 0#32 true) ∧
    tick (mk true true 5#32 0#32 true) = (mk true true 5#32 0#32 true) ∧
      statusWord (mk true true 5#32 0#32 true) = 0x7#32 ∧ irq (mk true true 5#32 0#32 true) = true ∧
    tickWith false (mk true false 5#32 3#32 false) = (mk true false 5#32 3#32 false) ∧
    tickWith true (mk true false 5#32 3#32 false) = (mk true false 5#32 3#32 false) ∧
    tick (mk true false 5#32 3#32 false) = (mk true false 5#32 3#32 false) ∧
      statusWord (mk true false 5#32 3#32 false) = 0x1#32 ∧ irq (mk true false 5#32 3#32 false) = false ∧
    tickWith false (mk false false 5#32 3#32 true) = (mk false false 5#32 3#32 true) ∧
    tickWith true (mk false false 5#32 3#32 true) = (mk false false 5#32 3#32 true) ∧
    tick (mk false false 5#32 3#32 true) = (mk false false 5#32 3#32 true) ∧
      statusWord (mk false false 5#32 3#32 true) = 0x4#32 ∧ irq (mk false false 5#32 3#32 true) = true ∧
    tickWith false (mk true true 5#32 0xFFFFFFFF#32 false) = (mk true true 5#32 0xFFFFFFFE#32 false) ∧
    tickWith true (mk true true 5#32 0xFFFFFFFF#32 false) = (mk true true 5#32 0xFFFFFFFE#32 false) ∧
    tick (mk true true 5#32 0xFFFFFFFF#32 false) = (mk true true 5#32 0xFFFFFFFE#32 false) ∧
      statusWord (mk true true 5#32 0xFFFFFFFE#32 false) = 0xB#32 ∧ irq (mk true true 5#32 0xFFFFFFFE#32 false) = false ∧
    tickWith false (mk false false 0#32 0#32 false) = (mk false false 0#32 0#32 false) ∧
    tickWith true (mk false false 0#32 0#32 false) = (mk false false 0#32 0#32 false) ∧
    tick (mk false false 0#32 0#32 false) = (mk false false 0#32 0#32 false) ∧
      statusWord (mk false false 0#32 0#32 false) = 0x0#32 ∧ irq (mk false false 0#32 0#32 false) = false := by decide

/-- T7, T8, T11, T12: the zero-reload state under each value of the open parameter. -/
theorem test_T_zero_reload :
    tickWith false (mk true true 0#32 0#32 false) = (mk true true 0#32 0#32 false) ∧
      statusWord (mk true true 0#32 0#32 false) = 0x3#32 ∧ irq (mk true true 0#32 0#32 false) = false ∧
    tickWith true (mk true true 0#32 0#32 false) = (mk true true 0#32 0#32 true) ∧
      statusWord (mk true true 0#32 0#32 true) = 0x7#32 ∧ irq (mk true true 0#32 0#32 true) = true ∧
    tickWith false (mk true true 7#32 0#32 false) = (mk true true 7#32 0#32 false) ∧
      statusWord (mk true true 7#32 0#32 false) = 0x3#32 ∧ irq (mk true true 7#32 0#32 false) = false ∧
    tickWith true (mk true true 7#32 0#32 false) = (mk true true 7#32 0#32 true) ∧
      statusWord (mk true true 7#32 0#32 true) = 0x7#32 ∧ irq (mk true true 7#32 0#32 true) = true := by decide

/-! ## Section 2.4: one clock cycle of the machine -/

/-- CY1 to CY5: reset drops whatever is presented; the first cycle after reset. -/
theorem test_CY1_CY5_reset :
    stepReset none (mk true true 5#32 0#32 true) = some (out 0x00000000#32 (mk false false 0#32 0#32 false)) ∧
      irq (mk false false 0#32 0#32 false) = false ∧
    stepReset (some 0x18200000009#41) (mk true true 5#32 0#32 true) = some (out 0x00000000#32 (mk false false 0#32 0#32 false)) ∧
      irq (mk false false 0#32 0#32 false) = false ∧
    stepReset (some 0x08400000000#41) (mk true true 5#32 0#32 true) = some (out 0x00000000#32 (mk false false 0#32 0#32 false)) ∧
      irq (mk false false 0#32 0#32 false) = false ∧
    stepReset (some 0x1430000ABCD#41) (mk true true 5#32 3#32 false) = some (out 0x00000000#32 (mk false false 0#32 0#32 false)) ∧
      irq (mk false false 0#32 0#32 false) = false ∧
    stepWord 0x08200000000#41 (mk false false 0#32 0#32 false) = some (out 0x00000000#32 (mk false false 0#32 0#32 false)) ∧
      irq (mk false false 0#32 0#32 false) = false := by decide

/-- CY6 to CY10: an idle cycle ticks, reads see the tick, a tap in the expiry cycle. -/
theorem test_CY6_CY10_order :
    stepIdle (mk true true 5#32 2#32 false) = some (out 0x00000000#32 (mk true true 5#32 1#32 false)) ∧
      irq (mk true true 5#32 1#32 false) = false ∧
    stepWord 0x08400000000#41 (mk true true 5#32 2#32 false) = some (out 0x0000000B#32 (mk true true 5#32 1#32 false)) ∧
      irq (mk true true 5#32 1#32 false) = false ∧
    stepWord 0x08400000000#41 (mk true true 5#32 1#32 false) = some (out 0x00000007#32 (mk true true 5#32 0#32 true)) ∧
      irq (mk true true 5#32 0#32 true) = true ∧
    stepWord 0x1430000ABCD#41 (mk true true 5#32 1#32 false) = some (out 0x00000000#32 (mk true true 5#32 5#32 false)) ∧
      irq (mk true true 5#32 5#32 false) = false ∧
    stepWord 0x14300001234#41 (mk true true 5#32 1#32 false) = some (out 0x00000000#32 (mk true true 5#32 0#32 true)) ∧
      irq (mk true true 5#32 0#32 true) = true := by decide

/-- CY11 to CY15: START, disable and COUNTDOWN in the expiry cycle, and one cycle earlier. -/
theorem test_CY11_CY15_order :
    stepWord 0x10100000001#41 (mk true true 5#32 1#32 false) = some (out 0x00000000#32 (mk true true 5#32 5#32 true)) ∧
      irq (mk true true 5#32 5#32 true) = true ∧
    stepWord 0x10000000000#41 (mk true true 5#32 1#32 false) = some (out 0x00000000#32 (mk false false 5#32 0#32 true)) ∧
      irq (mk false false 5#32 0#32 true) = true ∧
    stepWord 0x18200000009#41 (mk true true 5#32 1#32 false) = some (out 0x00000000#32 (mk true true 9#32 0#32 true)) ∧
      irq (mk true true 9#32 0#32 true) = true ∧
    stepWord 0x10000000000#41 (mk true true 5#32 2#32 false) = some (out 0x00000000#32 (mk false false 5#32 1#32 false)) ∧
      irq (mk false false 5#32 1#32 false) = false ∧
    stepWord 0x10100000001#41 (mk false false 5#32 0#32 false) = some (out 0x00000000#32 (mk true true 5#32 5#32 false)) ∧
      irq (mk true true 5#32 5#32 false) = false := by decide

/-- CY18: a word with the reserved width code is an idle cycle. -/
theorem test_CY18_reserved :
    stepWord 0x1C30000ABCD#41 (mk true true 5#32 3#32 false) = some (out 0x00000000#32 (mk true true 5#32 2#32 false)) ∧
      irq (mk true true 5#32 2#32 false) = false := by decide

/-- CY16, CY17: the read of the zero-reload state, for each value of the open parameter. -/
theorem test_CY16_CY17_zero_reload :
    out (regRead 4 .word (tickWith false (mk true true 0#32 0#32 false))) (tickWith false (mk true true 0#32 0#32 false)) =
      out 3#32 (mk true true 0#32 0#32 false) ∧
    out (regRead 4 .word (tickWith true (mk true true 0#32 0#32 false))) (tickWith true (mk true true 0#32 0#32 false)) =
      out 7#32 (mk true true 0#32 0#32 true) := by decide

/-- Every row without an effect leaves what the tick leaves, and returns 0 (R87, R88). -/
theorem test_no_effect_writes :
    ([0x104A5C396F1#41, 0x144A5C396F1#41, 0x184A5C396F1#41, 0x105A5C396F1#41, 0x145A5C396F1#41, 0x185A5C396F1#41]).all
      (fun w => stepWord w (mk true true 5#32 3#32 true) == some (mk true true 5#32 2#32 true)) = true ∧
    ([0x107A5C396F1#41, 0x147A5C396F1#41, 0x187A5C396F1#41, 0x10FA5C396F1#41, 0x14FA5C396F1#41, 0x18FA5C396F1#41]).all
      (fun w => stepWord w (mk true true 5#32 3#32 true) == some (mk true true 5#32 2#32 true)) = true ∧
    ([0x11FA5C396F1#41, 0x15FA5C396F1#41, 0x19FA5C396F1#41, 0x13FA5C396F1#41, 0x17FA5C396F1#41, 0x1BFA5C396F1#41]).all
      (fun w => stepWord w (mk true true 5#32 3#32 true) == some (mk true true 5#32 2#32 true)) = true := by
  refine ⟨?_, ?_, ?_⟩ <;> decide

/-- Every read of a write-only register or an unmapped selector returns 0 after the tick (R105 to R108). -/
theorem test_zero_reads :
    ([0x000A5C396F1#41, 0x040A5C396F1#41, 0x080A5C396F1#41, 0x001A5C396F1#41, 0x041A5C396F1#41, 0x081A5C396F1#41]).all
      (fun w => stepWord w (out 9#32 (mk true true 5#32 3#32 true)) == some (mk true true 5#32 2#32 true)) = true ∧
    ([0x003A5C396F1#41, 0x043A5C396F1#41, 0x083A5C396F1#41, 0x005A5C396F1#41, 0x045A5C396F1#41, 0x085A5C396F1#41]).all
      (fun w => stepWord w (out 9#32 (mk true true 5#32 3#32 true)) == some (mk true true 5#32 2#32 true)) = true ∧
    ([0x007A5C396F1#41, 0x047A5C396F1#41, 0x087A5C396F1#41, 0x00FA5C396F1#41, 0x04FA5C396F1#41, 0x08FA5C396F1#41]).all
      (fun w => stepWord w (out 9#32 (mk true true 5#32 3#32 true)) == some (mk true true 5#32 2#32 true)) = true ∧
    ([0x01FA5C396F1#41, 0x05FA5C396F1#41, 0x09FA5C396F1#41, 0x03FA5C396F1#41, 0x07FA5C396F1#41, 0x0BFA5C396F1#41]).all
      (fun w => stepWord w (out 9#32 (mk true true 5#32 3#32 true)) == some (mk true true 5#32 2#32 true)) = true := by
  refine ⟨?_, ?_, ?_, ?_⟩ <;> decide

/-- Word and half-word forms of the effective writes, through `exec`: W4, W5, W8, W22 with the tick of their cycle. -/
theorem test_exec_wide_writes :
    next? (exec (.wrWEnable 0#32) (mk true true 5#32 0#32 true)) = some (mk false false 5#32 0#32 true) ∧
    next? (exec (.wrHEnable 0x0100#16) (mk false false 5#32 3#32 true)) = some (mk true false 5#32 3#32 true) ∧
    next? (exec (.wrWStart 0#32) (mk false false 5#32 0#32 false)) = some (mk true true 5#32 5#32 false) ∧
    next? (exec (.wrHStart 0#16) (mk false false 5#32 0#32 false)) = some (mk true true 5#32 5#32 false) ∧
    next? (exec (.wrWTap 0x0000ABCD#32) (mk true true 5#32 0#32 true)) = some (mk true true 5#32 5#32 false) ∧
    next? (exec (.wrBTap 0xCD#8) (mk true true 5#32 0#32 true)) = some (mk true true 5#32 0#32 true) := by decide

/-- The three widths of COUNTDOWN through `exec`: W14, W15, W16. -/
theorem test_exec_countdown_writes :
    next? (exec (.wrBCountdown 0xAA#8) (mk false false 0x11223344#32 0#32 false)) =
      some (mk false false 0x112233AA#32 0#32 false) ∧
    next? (exec (.wrHCountdown 0xBEEF#16) (mk false false 0x11223344#32 0#32 false)) =
      some (mk false false 0x1122BEEF#32 0#32 false) ∧
    next? (exec (.wrWCountdown 0xCAFEF00D#32) (mk false false 0x11223344#32 0#32 false)) =
      some (mk false false 0xCAFEF00D#32 0#32 false) := by decide

/-- The first instruction after reset is the one `withFetchWord` places. -/
theorem test_first_after_reset :
    next? (step (State.reset.withFetchWord 48 0x18200000005)) = some (mk false false 5#32 0#32 false) ∧
    next? (step (State.reset.withFetchWord 48 0x10000000001)) = some (mk true false 0#32 0#32 false) ∧
    next? (step (State.reset.withFetchWord 8 0)) = some State.reset ∧
    next? (step (State.reset.withFetchWord 8 2)) = some State.reset := by decide

/-- With no input waiting the host presents nothing: an idle cycle (log entry 1). -/
theorem test_no_input_is_idle : next? (step (mk true true 5#32 2#32 false)) = some (mk true true 5#32 1#32 false) := by decide

/-- Each word counts once: of two inputs waiting the first is taken and the second waits (R57). -/
theorem test_input_taken_once :
    next? (step ((mk false false 0#32 0#32 false).setInputs (encode (.wrBEnable 1#8) :: [encode .reset]))) =
      some ((mk true false 0#32 0#32 false).setInputs [encode .reset]) := by decide

/-! ## Witnesses: for each statement with hypotheses, values that meet all of them together -/

theorem test_witness_DecodeOfEncode :
    Instr.WellFormed (.wrHUnmapped8To15 15#6 0xFFFF#16) ∧ Instr.WellFormed (.wrWUnmapped32To63 63#6 0xFFFFFFFF#32) ∧
    Instr.WellFormed (.rdBUnmapped6To7 6#6) ∧ Instr.WellFormed .reset := by decide

/-- Two words that differ in an ignored bit only, and two that differ in the top bit of the value, for each width. -/
theorem test_witness_DecodeForgetsOnlyIgnoredBits :
    Width.ofCode (TxnWord.wc 0x10000000100#41) = some .byte ∧ isInstr 0x10000000100#41 (.wrBEnable 0#8) ∧
      isInstr 0x10000000000#41 (.wrBEnable 0#8) ∧ isInstr 0x10000000080#41 (.wrBEnable 0x80#8) ∧
    Width.ofCode (TxnWord.wc 0x14000010000#41) = some .half ∧ isInstr 0x14000010000#41 (.wrHEnable 0#16) ∧
      isInstr 0x14000000000#41 (.wrHEnable 0#16) ∧ isInstr 0x14000008000#41 (.wrHEnable 0x8000#16) ∧
    Width.ofCode (TxnWord.wc 0x18080000000#41) = some .word ∧ isInstr 0x18080000000#41 (.wrWEnable 0x80000000#32) ∧
    isInstr 0x08080000000#41 .rdWEnable ∧ isInstr 0x08000000000#41 .rdWEnable := by decide

theorem test_witness_DecodeSelectsTheTableRow :
    decode 0x13F000000FF#41 = .ok (.wrBUnmapped32To63 63#6 0xFF#8) ∧
    TableRow.hits ⟨"WR.B_UNMAPPED_32..63", 0x1E000000000#41, 0x12000000000#41⟩ 0x13F000000FF#41 = true ∧
    TableRow.hits ⟨"WR.B_UNMAPPED_16..31", 0x1F000000000#41, 0x11000000000#41⟩ 0x13F000000FF#41 = false :=
  ⟨rfl, by decide, by decide⟩

/-- One word for each side. -/
theorem test_witness_DecodeIsTotal :
    TxnWord.wc 0x1C30000ABCD#41 = 0b11#2 ∧ TxnWord.wc 0x18500000001#41 ≠ 0b11#2 := by decide

theorem test_witness_StepRunsDecodedInput :
    decodeInput (nextInput ((mk true true 5#32 2#32 false).setInputs [⟨false, some 0x1430000ABCD#41⟩])) =
      .ok (.wrHTap 0xABCD#16) ∧
    decodeInput (nextInput (mk true true 5#32 2#32 false)) = .ok .idle ∧
    decodeInput (nextInput ((mk true true 5#32 2#32 false).setInputs [⟨true, some 0x1C30000ABCD#41⟩])) = .ok .reset :=
  ⟨rfl, rfl, rfl⟩

theorem test_witness_ExecIsCycleOfEncoding :
    Instr.WellFormed (.wrWUnmapped16To31 31#6 1#32) ∧ Instr.WellFormed (.rdHUnmapped16To31 16#6) ∧
    Instr.WellFormed .idle := by decide

theorem test_witness_ReservedWidthCycleIdles :
    ((mk true true 5#32 3#32 false).setInputs [⟨false, some 0x1C30000ABCD#41⟩, ⟨true, none⟩]).inputs =
      ⟨false, some 0x1C30000ABCD#41⟩ :: [⟨true, none⟩] ∧ TxnWord.wc 0x1C30000ABCD#41 = 0b11#2 := by decide

theorem test_witness_StepKeepsStartedEnabled :
    StartedEnabled (mk true true 5#32 1#32 false) ∧
    step ((mk true true 5#32 1#32 false).setInputs [encode (.wrBEnable 0#8)]) = .next (mk false false 5#32 0#32 true) ∧
    StartedEnabled (mk false false 5#32 0#32 false) ∧
    step ((mk false false 5#32 0#32 false).setInputs [encode (.wrBStart 0#8)]) = .next (mk true true 5#32 5#32 false) :=
  ⟨by decide, rfl, by decide, rfl⟩

/-- Two reachable states: reset, and the state after `ENABLE`. -/
theorem test_witness_ReachableStatusValues : Reachable State.reset ∧ Reachable (mk true false 0#32 0#32 false) :=
  ⟨.reset [], .step (.reset [encode (.wrBEnable 1#8)]) rfl⟩

theorem test_witness_ResetCycleResult :
    ((mk true true 5#32 1#32 true).setInputs [⟨true, some 0x1430000ABCD#41⟩, ⟨false, none⟩]).inputs =
      ⟨true, some 0x1430000ABCD#41⟩ :: [⟨false, none⟩] := by decide

/-- Reset held for two cycles, the last of them `k = 1`. -/
theorem test_witness_ResetHoldsS0 :
    ((mk true true 5#32 1#32 true).setInputs [⟨true, none⟩, ⟨true, some 0x10000000001#41⟩, ⟨false, none⟩]).inputs =
      [⟨true, none⟩, ⟨true, some 0x10000000001#41⟩] ++ [⟨false, none⟩] ∧
    (∀ c ∈ [(⟨true, none⟩ : CycleInput), ⟨true, some 0x10000000001#41⟩], c.reset = true) ∧
    1 < [(⟨true, none⟩ : CycleInput), ⟨true, some 0x10000000001#41⟩].length := by decide

/-- Counting at the smallest and the largest count, and not counting for each of the two reasons. -/
theorem test_witness_TickDecrementsByOne :
    counterActive (mk true true 5#32 1#32 false) = true ∧ counterActive (mk true true 5#32 0xFFFFFFFF#32 false) = true ∧
    counterActive (mk true true 5#32 0#32 true) = false ∧ counterActive (mk true false 5#32 3#32 false) = false := by decide

theorem test_witness_ExpiredStateStableUnderTicks :
    (mk false false 5#32 0#32 false).countdownRemaining = 0#32 ∧
    (mk true true 5#32 0#32 true).started = true ∧ (mk true true 5#32 0#32 true).countdownRemaining = 0#32 ∧
    (mk true true 5#32 0#32 true).timeoutPending = true := by decide

theorem test_witness_TickDoesNothingUnlessStarted : (mk true false 5#32 3#32 false).started = false := by decide

theorem test_witness_ZeroReloadTick :
    (mk true true 0#32 0#32 false).started = true ∧ (mk true true 0#32 0#32 false).countdownRemaining = 0#32 ∧
    (mk true true 0#32 0#32 false).timeoutPending = false := by decide

/-- A state outside the zero-reload state, with an event that enters it (W30) and one that does not. -/
theorem test_witness_ZeroReloadStateEntry :
    zeroReload (mk true true 0#32 2#32 false) = false ∧
    zeroReload ((wr 3#6 .half 0xABCD#32).apply (mk true true 0#32 2#32 false)) = true ∧
    zeroReload (Event.tick.apply (mk true true 0#32 2#32 false)) = false := by decide

/-- A quiet run one tick short of the count, and one with as many ticks as the count. -/
theorem test_witness_TimeToExpiry :
    (mk true true 5#32 2#32 false).started = true ∧ 0 < (mk true true 5#32 2#32 false).countdownRemaining.toNat ∧
    quietRun [wr 2#6 .word 9#32, .tick] (mk true true 5#32 2#32 false) = true ∧
    tickCount [wr 2#6 .word 9#32, .tick] < (mk true true 5#32 2#32 false).countdownRemaining.toNat ∧
    quietRun [.tick, wr 3#6 .half 0x1234#32, .tick] (mk true true 5#32 2#32 false) = true ∧
    tickCount [.tick, wr 3#6 .half 0x1234#32, .tick] = (mk true true 5#32 2#32 false).countdownRemaining.toNat := by decide

/-- The shortest deadline (section 2.5), at `k = 0` and at `k = 1`. -/
theorem test_witness_StartToInterrupt :
    (∃ (b : Byte) (h : Half) (w : Word), Instr.wrBStart 1#8 = .wrBStart b ∨ Instr.wrBStart 1#8 = .wrHStart h ∨
      Instr.wrBStart 1#8 = .wrWStart w) ∧
    ((mk false false 1#32 0#32 false).setInputs [encode (.wrBStart 1#8)]).inputs = [encode (.wrBStart 1#8)] ∧
    0 < (mk false false 1#32 0#32 false).countdownConfigured.toNat ∧
    0 ≤ (mk false false 1#32 0#32 false).countdownConfigured.toNat ∧
    1 ≤ (mk false false 1#32 0#32 false).countdownConfigured.toNat :=
  ⟨⟨1#8, 0#16, 0#32, .inl rfl⟩, rfl, by decide, by decide, by decide⟩

theorem test_witness_ReloadOnStart :
    (mk false false 1#32 0#32 false).countdownConfigured ≠ 0#32 ∧
    Instr.wrHStart 0#16 ∈ [Instr.wrBStart 0#8, Instr.wrHStart 0#16, Instr.wrWStart 0#32] := by decide

/-- From a running state, reset and then accesses that never configure a count. -/
theorem test_witness_NoSpuriousStart :
    neverConfigured [wr 0#6 .byte 1#32, wr 1#6 .byte 1#32, .tick, wr 2#6 .word 0#32]
      (resetAll (mk true true 5#32 3#32 true)) = true := by decide

theorem test_witness_NoConfigNoCount :
    neverConfigured [wr 1#6 .word 7#32, .tick, wr 3#6 .half 0xABCD#32] (resetAll (mk true true 5#32 3#32 true)) = true := by
  decide

/-- The tick that reaches 0; and a run that disables, taps without effect and starts again with the fault pending. -/
theorem test_witness_ExpiryAssertsInterrupt :
    (mk true true 5#32 1#32 false).started = true ∧ (mk true true 5#32 1#32 false).countdownRemaining ≠ 0#32 ∧
    (tick (mk true true 5#32 1#32 false)).countdownRemaining = 0#32 ∧
    (mk true true 5#32 0#32 true).timeoutPending = true ∧
    stickyRun [wr 0#6 .byte 0#32, wr 3#6 .half 0xABCD#32, .tick, wr 1#6 .byte 1#32] (mk true true 5#32 0#32 true) = true := by
  decide

theorem test_witness_TapClearsAndReloads :
    Width.half ≠ .byte ∧ Width.word ≠ .byte ∧
    (mk true true 5#32 0#32 true).enabled = true ∧ (mk true true 5#32 0#32 true).started = true := by decide

/-- One state and value for each of the three conditions: W27, W28, W29. -/
theorem test_witness_TapNoOpConditions :
    0xABCE#32 ≠ 0xABCD#32 ∧ (mk false false 5#32 0#32 true).enabled = false ∧
    (mk true false 5#32 0#32 true).started = false := by decide

theorem test_witness_DisableKeepsFault : (mk true true 5#32 0#32 true).timeoutPending = true := by decide

/-- The six clauses of one STATUS read: bits 0 to 3, 4 and 31 of RD9. -/
theorem test_witness_StatusBitFidelity :
    (regRead 4 .word (mk true true 5#32 5#32 false)).getLsbD 0 = true ∧
    (regRead 4 .word (mk true true 5#32 5#32 false)).getLsbD 1 = true ∧
    (regRead 4 .word (mk true true 5#32 5#32 false)).getLsbD 2 = false ∧
    (regRead 4 .word (mk true true 5#32 5#32 false)).getLsbD 3 = true ∧
    (regRead 4 .word (mk true true 5#32 5#32 false)).getLsbD 4 = false ∧
    (regRead 4 .word (mk true true 5#32 5#32 false)).getLsbD 31 = false ∧
    Instr.rdHStatus ∈ [Instr.rdBStatus, Instr.rdHStatus, Instr.rdWStatus] := by decide

theorem test_witness_ReadsChangeNoField :
    (⟨.read, .byte, 4#6, 0#32⟩ : Txn).op = .read ∧ isRead (.rdWUnmapped32To63 63#6) = true ∧ isRead .rdBStatus = true := by
  decide

/-- The line rises in the expiry cycle, and falls by a valid tap and by reset. -/
theorem test_witness_PendingSetAndCleared :
    exec .idle (mk true true 5#32 1#32 false) = .next (mk true true 5#32 0#32 true) ∧
    irq (mk true true 5#32 1#32 false) = false ∧ irq (mk true true 5#32 0#32 true) = true ∧
    exec (.wrHTap 0xABCD#16) (mk true true 5#32 0#32 true) = .next (mk true true 5#32 5#32 false) ∧
    irq (mk true true 5#32 5#32 false) = false ∧
    exec .reset (mk true true 5#32 0#32 true) = .next State.reset ∧ irq State.reset = false :=
  ⟨rfl, rfl, rfl, rfl, rfl, rfl, rfl⟩

/-- One instruction for each way a field changes, and one clearing write for each of the two clears of the fault. -/
theorem test_witness_FieldWriters :
    exec (.wrBEnable 1#8) (mk false false 5#32 0#32 false) = .next (mk true false 5#32 0#32 false) ∧
    exec (.wrBEnable 0#8) (mk true true 5#32 2#32 false) = .next (mk false false 5#32 1#32 false) ∧
    exec (.wrBStart 1#8) (mk false false 5#32 0#32 false) = .next (mk true true 5#32 5#32 false) ∧
    exec (.wrWCountdown 9#32) (mk true true 5#32 1#32 false) = .next (mk true true 9#32 0#32 true) ∧
    exec (.wrHTap 0xABCD#16) (mk true true 5#32 1#32 false) = .next (mk true true 5#32 5#32 false) ∧
    exec (.wrHTap 0xABCD#16) (mk true true 5#32 0#32 true) = .next (mk true true 5#32 5#32 false) ∧
    exec .idle (mk true true 5#32 2#32 false) = .next (mk true true 5#32 1#32 false) ∧
    exec .idle (mk true true 5#32 1#32 false) = .next (mk true true 5#32 0#32 true) ∧
    exec .reset (mk true true 5#32 2#32 true) = .next State.reset :=
  ⟨rfl, rfl, rfl, rfl, rfl, rfl, rfl, rfl, rfl⟩

/-- A write at each selector where the table's columns meet, 0 to 4, and a read. -/
theorem test_witness_WriterTable :
    (∀ a ∈ [0#6, 1#6, 2#6, 3#6, 4#6], (⟨.write, .word, a, 0xABCD#32⟩ : Txn).op = .write) ∧
    (⟨.read, .byte, 4#6, 0#32⟩ : Txn).op = .read := by decide

/-- The four ways the counter moves or stays: a tick, a START, a valid tap, a reset, and a write that moves nothing. -/
theorem test_witness_PrimitiveCounterMoves :
    (Event.tick.apply (mk true true 5#32 1#32 false)).countdownRemaining = 0#32 ∧
    ((wr 1#6 .byte 0#32).apply (mk true true 5#32 1#32 false)).countdownRemaining = 5#32 ∧
    ((wr 3#6 .half 0xABCD#32).apply (mk true true 5#32 1#32 false)).countdownRemaining = 5#32 ∧
    (Event.reset.apply (mk true true 5#32 1#32 false)).countdownRemaining = 0#32 ∧
    ((wr 2#6 .word 9#32).apply (mk true true 5#32 1#32 false)).countdownRemaining = 1#32 := by decide

/-- `LOAD 1; START; tick; DISABLE` from reset leaves the fault pending. -/
theorem test_witness_PendingHasAnExpiry :
    (runEvents [wr 2#6 .word 1#32, wr 1#6 .byte 1#32, .tick, wr 0#6 .byte 0#32]
      (resetAll (mk true true 5#32 3#32 true))).timeoutPending = true := by decide

theorem test_witness_AccessInTheExpiryCycle :
    (mk true true 5#32 1#32 false).enabled = true ∧ (mk true true 5#32 1#32 false).started = true ∧
    (mk true true 5#32 1#32 false).countdownRemaining = 1#32 ∧ (mk true true 5#32 1#32 false).countdownConfigured ≠ 0#32 ∧
    Instr.wrWTap 0xABCD#32 ∈ [Instr.wrHTap 0xABCD#16, Instr.wrWTap 0xABCD#32] ∧
    Instr.wrHEnable 0#16 ∈ [Instr.wrBEnable 0#8, Instr.wrHEnable 0#16, Instr.wrWEnable 0#32] ∧
    Instr.wrBStart 1#8 ∈ [Instr.wrBStart 1#8, Instr.wrHStart 0#16, Instr.wrWStart 0#32] := by decide

theorem test_witness_ClearingAFaultAfterDisable :
    (mk false false 5#32 0#32 true).enabled = false ∧ (mk false false 5#32 0#32 true).started = false ∧
    (mk false false 5#32 0#32 true).timeoutPending = true ∧ Event.tick ≠ .reset ∧ 1#32 ≠ 0#32 ∧
    (mk false false 5#32 0#32 true).countdownConfigured ≠ 0#32 := by decide

/-- Runs of more than one event: none restarts and the line stays high; a restart and a valid tap lower it; a reset does. -/
theorem test_witness_ClearingAFaultAfterDisable_runs :
    restartFree [wr 0#6 .byte 1#32, .tick, wr 3#6 .half 0xABCD#32, wr 0#6 .byte 1#32, wr 2#6 .word 0#32, wr 1#6 .byte 1#32]
      (mk false false 5#32 0#32 true) = true ∧
    irq (runEvents [wr 0#6 .byte 0#32, wr 1#6 .byte 1#32, .tick, wr 3#6 .half 0xABCD#32, .tick]
      (mk false false 5#32 0#32 true)) = false ∧
    irq (runEvents [.tick, .reset] (mk false false 5#32 0#32 true)) = false := by decide

/-- One state for each control state, and one access for each condition of the last clause. -/
theorem test_witness_TransitionTable :
    controlState (mk false false 5#32 0#32 true) = some .off ∧ controlState (mk true false 5#32 3#32 false) = some .armed ∧
    controlState (mk true true 5#32 1#32 false) = some .running ∧ controlState (mk true true 5#32 0#32 true) = some .expired ∧
    Width.half ≠ .byte ∧
    (⟨.read, .word, 0#6, 0#32⟩ : Txn).op = .read ∧ (⟨.write, .word, 2#6, 9#32⟩ : Txn).addr.toNat = 2 ∧
    4 ≤ (⟨.write, .word, 4#6, 0#32⟩ : Txn).addr.toNat ∧ 4 ≤ (⟨.write, .byte, 63#6, 0xFF#32⟩ : Txn).addr.toNat ∧
    (⟨.write, .half, 3#6, 0x1234#32⟩ : Txn).addr.toNat = 3 ∧ (⟨.write, .half, 3#6, 0x1234#32⟩ : Txn).value ≠ 0xABCD#32 := by
  decide

theorem test_witness_LeftoverCountUnobservable : (mk true false 5#32 3#32 false).started = false := by decide

theorem test_witness_UnmappedSelectorsAlike : 5 ≤ 5 ∧ 5 ≤ 63 ∧ 5 ≤ 64 := by decide

theorem test_witness_ReadDataFitsWidth :
    exec .rdBCountdown (mk false false 0xCAFEF00D#32 0#32 false) =
      .next (out 0x0000000D#32 (mk false false 0xCAFEF00D#32 0#32 false)) ∧
    Instr.txn .rdBCountdown = some ⟨.read, .byte, 2#6, 0#32⟩ ∧ isRead (.wrBCountdown 1#8) = false ∧ isRead .idle = false :=
  ⟨rfl, rfl, rfl, rfl⟩

/-- The second clause of ResetHoldsS0's rule, read through the interface: a cycle of reset is one step of `core`. -/
theorem test_core_runs_reset :
    Host.Core.run core 1 ((mk true true 5#32 1#32 true).setInputs [⟨true, none⟩]) = .next State.reset := rfl

/-- A word the encoder gives belongs to its row: a use of the per-instruction family. -/
theorem test_rowOf_rdBStatus : ∃ r ∈ opcodeTable, r.mnemonic = "RD.B_STATUS" ∧ r.hits 0x00400000000#41 = true :=
  Laws.RowOf.rdBStatus rfl _ rfl

end Sys2Proof.Tests
end

section
/-!
PROOFS. The family of `10_state.md`: who writes which field (R28), the state after reset (R35) and the leftover count (R36).
-/

namespace Sys2Proof.Proofs

open Sys2Proof.Machine Sys2Proof.Safety Sys2Proof.Laws

/-! ## The tick, field by field -/

/-- The count after a tick as a number (R111, R113). -/
theorem tick_remaining_toNat (s : State) : (tick s).countdownRemaining.toNat =
    if counterActive s = true then s.countdownRemaining.toNat - 1 else s.countdownRemaining.toNat := by
  obtain ⟨hs, h0, -, e⟩ | ⟨hs, h1, e⟩ | ⟨hs, h0, e⟩ | ⟨hs, e⟩ := tick_cases s <;> rw [e]
  · rw [if_pos ((counterActive_iff s).mpr ⟨hs, h0⟩)]
    exact Nat.eq_sub_of_add_eq (toNat_sub_one h0)
  · simp [counterActive, hs, h1]
  · simp [counterActive, h0]
  · simp [counterActive, hs]

/-- The flag after a tick: kept, or set at expiry, or set in the zero-reload state (R112, R114). -/
theorem tick_timeoutPending (s : State) : (tick s).timeoutPending = (s.timeoutPending ||
    (s.started && s.countdownRemaining == 1#32) || (zeroReload s && Config.zeroReloadExpires)) := by
  obtain ⟨hs, h0, h1, e⟩ | ⟨hs, h1, e⟩ | ⟨hs, h0, e⟩ | ⟨hs, e⟩ := tick_cases s <;> rw [e]
  · simp [zeroReload, beq_eq_false_iff_ne.mpr h0, beq_eq_false_iff_ne.mpr h1]
  · simp [hs, h1]
  · cases h : s.timeoutPending <;> simp [zeroReload, hs, h0, h]
  · simp [zeroReload, hs]

/-- A tick that moves the counter takes it to one less, while `counter_active`. -/
theorem tick_remaining_of_ne {s : State} (h : (tick s).countdownRemaining ≠ s.countdownRemaining) :
    counterActive s = true ∧ (tick s).countdownRemaining.toNat + 1 = s.countdownRemaining.toNat := by
  have e := tick_remaining_toNat s
  have ha : counterActive s = true := by
    by_contra ha
    exact h (BitVec.eq_of_toNat_eq (by simpa [ha] using e))
  have := toNat_sub_one ((counterActive_iff s).mp ha).2
  simp only [ha, if_true] at e
  exact ⟨ha, by omega⟩

/-- A tick that changes the flag sets it, at expiry or in the zero-reload state. -/
theorem tick_timeoutPending_of_ne {s : State} (h : (tick s).timeoutPending ≠ s.timeoutPending) :
    (tick s).timeoutPending = true ∧ s.started = true ∧
      (s.countdownRemaining = 1#32 ∨ (s.countdownRemaining = 0#32 ∧ Config.zeroReloadExpires = true)) := by
  obtain ⟨-, -, -, e⟩ | ⟨hs, h1, e⟩ | ⟨hs, h0, e⟩ | ⟨-, e⟩ := tick_cases s <;> rw [e] at h ⊢
  · exact absurd rfl h
  · exact ⟨rfl, hs, .inl h1⟩
  · have hz : Config.zeroReloadExpires = true := by
      by_contra hz
      simp [hz] at h
    exact ⟨by simp [hz], hs, .inr ⟨h0, hz⟩⟩
  · exact absurd rfl h

/-! ## The writer table at the primitive level (R28) -/

/-- The rows of the write operations, field by field. -/
theorem access_write_fields (x : Txn) (s : State) (hop : x.op = .write) :
    ((access x s).enabled = if x.addr.toNat = 0 then decide (x.value ≠ 0#32)
      else if x.addr.toNat = 1 ∧ s.countdownConfigured ≠ 0#32 then true else s.enabled) ∧
    ((access x s).started = if x.addr.toNat = 0 then s.started && decide (x.value ≠ 0#32)
      else if x.addr.toNat = 1 ∧ s.countdownConfigured ≠ 0#32 then true else s.started) ∧
    (∀ k, (access x s).countdownConfigured.getLsbD k =
      if x.addr.toNat = 2 ∧ k < x.width.bits then x.value.getLsbD k else s.countdownConfigured.getLsbD k) ∧
    ((access x s).countdownRemaining = if (x.addr.toNat = 1 ∧ s.countdownConfigured ≠ 0#32) ∨
        (x.addr.toNat = 3 ∧ s.enabled = true ∧ s.started = true ∧ x.value = 0xABCD#32)
      then s.countdownConfigured else s.countdownRemaining) ∧
    ((access x s).timeoutPending =
      if x.addr.toNat = 3 ∧ s.enabled = true ∧ s.started = true ∧ x.value = 0xABCD#32
      then false else s.timeoutPending) := by
  obtain ⟨hr, -⟩ | ⟨-, ha, hv, e⟩ | ⟨-, ha, hv, e⟩ | ⟨-, ha, hc, e⟩ | ⟨-, ha, hc, e⟩ | ⟨-, ha, e⟩ |
    ⟨-, ha, he, hs, hv, e⟩ | ⟨-, ha, hn, e⟩ | ⟨-, ha, e⟩ := access_cases x s
  · simp [hop] at hr
  · simp [e, ha, hv]
  · simp [e, ha, hv]
  · simp [e, ha, hc]
  · simp [e, ha, hc]
  · simp [e, ha, mergeLanes_getLsbD]
  · simp [e, ha, he, hs, hv]
  · simp [e, ha, hn]
  · simp [e, show x.addr.toNat ≠ 0 by omega, show x.addr.toNat ≠ 1 by omega, show x.addr.toNat ≠ 2 by omega,
      show x.addr.toNat ≠ 3 by omega]

/-- The row of the read operations: all five cells are blank. -/
theorem access_read_eq (x : Txn) (s : State) (hop : x.op = .read) : ∃ d, access x s = { s with rdata := d } :=
  ⟨_, by simp only [access, hop]; rfl⟩

/-- Settles O54: the rows of the writes, the reads, the tick and the reset, each from its own lemma. -/
theorem writerTable : Obligations.WriterTable :=
  ⟨access_write_fields, access_read_eq,
    fun s => ⟨tick_enabled s, tick_started s, tick_configured s, tick_remaining_toNat s, tick_timeoutPending s⟩,
    fun _ => ⟨rfl, rfl, rfl, rfl, rfl⟩⟩

/-! ## The writer table per cycle (R28, under R120) -/

/-- What one cycle of an instruction can leave, one constructor per case of `exec_cases`. -/
inductive CycleEffect (i : Instr) (s : State) : State → Prop where
  | reset (hi : i = .reset) : CycleEffect i s { State.reset with inputs := s.inputs }
  | tickOnly (hi : i ≠ .reset) (d : Word) : CycleEffect i s { tick s with rdata := d }
  | enable (hi : i ≠ .reset) (hw : writesTo 0 i = true) (hv : valueOf i ≠ 0#32) :
      CycleEffect i s { tick s with enabled := true, rdata := 0#32 }
  | disable (hi : i ≠ .reset) (hw : writesTo 0 i = true) (hv : valueOf i = 0#32) :
      CycleEffect i s { tick s with enabled := false, started := false, rdata := 0#32 }
  | start (hi : i ≠ .reset) (hw : writesTo 1 i = true) (hc : s.countdownConfigured ≠ 0#32) :
      CycleEffect i s
        { tick s with enabled := true, started := true, countdownRemaining := s.countdownConfigured, rdata := 0#32 }
  | countdown (hi : i ≠ .reset) (hw : writesTo 2 i = true) (x : Txn) (hx : i.txn = some x) :
      CycleEffect i s
        { tick s with countdownConfigured := mergeLanes x.width s.countdownConfigured x.value, rdata := 0#32 }
  | tap (hi : i ≠ .reset) (hw : writesTo 3 i = true) (hv : valueOf i = 0xABCD#32) (he : s.enabled = true)
      (hs : s.started = true) :
      CycleEffect i s
        { tick s with countdownRemaining := s.countdownConfigured, timeoutPending := false, rdata := 0#32 }

section

variable {i : Instr} {s t : State}

theorem cycleEffect_of_exec (h : exec i s = .next t) : CycleEffect i s t := by
  obtain ⟨u, hu, hcases⟩ := exec_cases i s
  obtain rfl : u = t := by simpa [hu] using h
  obtain ⟨hi, rfl⟩ | ⟨hi, d, rfl⟩ | ⟨hi, hw, hv, rfl⟩ | ⟨hi, hw, hv, rfl⟩ | ⟨hi, hw, hc, rfl⟩ | ⟨hi, hw, x, hx, rfl⟩ |
    ⟨hi, hw, hv, he, hs, rfl⟩ := hcases
  · exact .reset hi
  · exact .tickOnly hi d
  · exact .enable hi hw hv
  · exact .disable hi hw hv
  · exact .start hi hw hc
  · exact .countdown hi hw x hx
  · exact .tap hi hw hv he hs

/-- The column of `enabled`. -/
theorem CycleEffect.enabled_writers (h : CycleEffect i s t) (hne : t.enabled ≠ s.enabled) :
    (i = .reset ∧ t.enabled = false) ∨
    (writesTo 0 i = true ∧ t.enabled = decide (valueOf i ≠ 0#32)) ∨
    (writesTo 1 i = true ∧ s.countdownConfigured ≠ 0#32 ∧ t.enabled = true) := by
  cases h with
  | reset hi => exact .inl ⟨hi, rfl⟩
  | enable _ hw hv | disable _ hw hv => exact .inr (.inl ⟨hw, by simp [hv]⟩)
  | start _ hw hc => exact .inr (.inr ⟨hw, hc, rfl⟩)
  | tickOnly | countdown | tap => exact absurd (tick_enabled s) hne

/-- The column of `started`. -/
theorem CycleEffect.started_writers (h : CycleEffect i s t) (hne : t.started ≠ s.started) :
    (i = .reset ∧ t.started = false) ∨
    (writesTo 0 i = true ∧ valueOf i = 0#32 ∧ t.started = false) ∨
    (writesTo 1 i = true ∧ s.countdownConfigured ≠ 0#32 ∧ t.started = true) := by
  cases h with
  | reset hi => exact .inl ⟨hi, rfl⟩
  | disable _ hw hv => exact .inr (.inl ⟨hw, hv, rfl⟩)
  | start _ hw hc => exact .inr (.inr ⟨hw, hc, rfl⟩)
  | tickOnly | enable | countdown | tap => exact absurd (tick_started s) hne

/-- The column of `countdown_configured`, with the lanes of R46. -/
theorem CycleEffect.configured_writers (h : CycleEffect i s t)
    (hne : t.countdownConfigured ≠ s.countdownConfigured) :
    (i = .reset ∧ t.countdownConfigured = 0#32) ∨
    (writesTo 2 i = true ∧ ∃ x, i.txn = some x ∧ ∀ k, t.countdownConfigured.getLsbD k =
      if k < x.width.bits then x.value.getLsbD k else s.countdownConfigured.getLsbD k) := by
  cases h with
  | reset hi => exact .inl ⟨hi, rfl⟩
  | countdown _ hw x hx => exact .inr ⟨hw, x, hx, mergeLanes_getLsbD x.width s.countdownConfigured x.value⟩
  | tickOnly | enable | disable | start | tap => exact absurd (tick_configured s) hne

/-- The column of `countdown_remaining`. -/
theorem CycleEffect.remaining_writers (h : CycleEffect i s t) (hne : t.countdownRemaining ≠ s.countdownRemaining) :
    (i = .reset ∧ t.countdownRemaining = 0#32) ∨
    (counterActive s = true ∧ t.countdownRemaining.toNat + 1 = s.countdownRemaining.toNat) ∨
    (writesTo 1 i = true ∧ s.countdownConfigured ≠ 0#32 ∧ t.countdownRemaining = s.countdownConfigured) ∨
    (writesTo 3 i = true ∧ valueOf i = 0xABCD#32 ∧ s.enabled = true ∧ s.started = true ∧
      t.countdownRemaining = s.countdownConfigured) := by
  cases h with
  | reset hi => exact .inl ⟨hi, rfl⟩
  | start _ hw hc => exact .inr (.inr (.inl ⟨hw, hc, rfl⟩))
  | tap _ hw hv he hs => exact .inr (.inr (.inr ⟨hw, hv, he, hs, rfl⟩))
  | tickOnly | enable | disable | countdown => exact .inr (.inl (tick_remaining_of_ne hne))

/-- The column of `timeout_pending`. -/
theorem CycleEffect.timeout_writers (h : CycleEffect i s t) (hne : t.timeoutPending ≠ s.timeoutPending) :
    (t.timeoutPending = true ∧ i ≠ .reset ∧ s.started = true ∧
      (s.countdownRemaining = 1#32 ∨ (s.countdownRemaining = 0#32 ∧ Config.zeroReloadExpires = true))) ∨
    (t.timeoutPending = false ∧ (i = .reset ∨
      (writesTo 3 i = true ∧ valueOf i = 0xABCD#32 ∧ s.enabled = true ∧ s.started = true))) := by
  cases h with
  | reset hi => exact .inr ⟨rfl, .inl hi⟩
  | tap _ hw hv he hs => exact .inr ⟨rfl, .inr ⟨hw, hv, he, hs⟩⟩
  | tickOnly hi | enable hi | disable hi | start hi | countdown hi =>
    obtain ⟨ht, hs, hr⟩ := tick_timeoutPending_of_ne hne
    exact .inl ⟨ht, hi, hs, hr⟩

/-- No instruction touches the host's inputs (log entry 1). -/
theorem CycleEffect.inputs_eq (h : CycleEffect i s t) : t.inputs = s.inputs := by
  cases h with
  | reset => rfl
  | tickOnly | enable | disable | start | countdown | tap => exact tick_inputs s

end

/-- Settles O43: the writer table's columns, each from what one cycle can leave. -/
theorem fieldWriters : Obligations.FieldWriters := by
  intro i s t h
  have hc := cycleEffect_of_exec h
  exact ⟨hc.enabled_writers, hc.started_writers, hc.configured_writers, hc.remaining_writers, hc.timeout_writers,
    hc.inputs_eq⟩

/-! ## The leftover count (R36) -/

/-- Every instruction is one cycle of the register map: a write, a read, the tick alone, or reset. The witnesses take the
width `.word` at the registers that ignore the width, and selector 5 for every unmapped selector (R43). -/
theorem exec_is_cycle (i : Instr) :
    (∃ a w v, ∀ s, exec i s = .next (writeCycle (regWrite a w v) s)) ∨
    (∃ a w, ∀ s, exec i s = .next (readCycle (regRead a w) s)) ∨
    (∀ s, exec i s = .next (idleCycle s)) ∨ (∀ s, exec i s = .next (resetCycle s)) := by
  cases i
  case idle => exact .inr (.inr (.inl fun _ => rfl))
  case reset => exact .inr (.inr (.inr fun _ => rfl))
  case wrBEnable v | wrHEnable v | wrWEnable v => exact .inl ⟨0, .word, zext32 v, fun _ => rfl⟩
  case wrBStart v | wrHStart v | wrWStart v => exact .inl ⟨1, .word, zext32 v, fun _ => rfl⟩
  case wrBCountdown v => exact .inl ⟨2, .byte, zext32 v, fun _ => rfl⟩
  case wrHCountdown v => exact .inl ⟨2, .half, zext32 v, fun _ => rfl⟩
  case wrWCountdown v => exact .inl ⟨2, .word, zext32 v, fun _ => rfl⟩
  case wrBTap v | wrHTap v | wrWTap v => exact .inl ⟨3, .word, zext32 v, fun _ => rfl⟩
  case wrBStatus v | wrHStatus v | wrWStatus v => exact .inl ⟨4, .word, zext32 v, fun _ => rfl⟩
  case wrBUnmapped5 v | wrHUnmapped5 v | wrWUnmapped5 v => exact .inl ⟨5, .word, zext32 v, fun _ => rfl⟩
  case wrBUnmapped6To7 _ v | wrHUnmapped6To7 _ v | wrWUnmapped6To7 _ v | wrBUnmapped8To15 _ v |
      wrHUnmapped8To15 _ v | wrWUnmapped8To15 _ v | wrBUnmapped16To31 _ v | wrHUnmapped16To31 _ v |
      wrWUnmapped16To31 _ v | wrBUnmapped32To63 _ v | wrHUnmapped32To63 _ v | wrWUnmapped32To63 _ v =>
    exact .inl ⟨5, .word, zext32 v, fun _ => rfl⟩
  case rdBCountdown => exact .inr (.inl ⟨2, .byte, fun _ => rfl⟩)
  case rdHCountdown => exact .inr (.inl ⟨2, .half, fun _ => rfl⟩)
  case rdWCountdown => exact .inr (.inl ⟨2, .word, fun _ => rfl⟩)
  case rdBStatus => exact .inr (.inl ⟨4, .byte, fun _ => rfl⟩)
  case rdHStatus => exact .inr (.inl ⟨4, .half, fun _ => rfl⟩)
  case rdWStatus => exact .inr (.inl ⟨4, .word, fun _ => rfl⟩)
  case rdBEnable | rdHEnable | rdWEnable => exact .inr (.inl ⟨0, .word, fun _ => rfl⟩)
  case rdBStart | rdHStart | rdWStart => exact .inr (.inl ⟨1, .word, fun _ => rfl⟩)
  case rdBTap | rdHTap | rdWTap => exact .inr (.inl ⟨3, .word, fun _ => rfl⟩)
  case rdBUnmapped5 | rdHUnmapped5 | rdWUnmapped5 | rdBUnmapped6To7 | rdHUnmapped6To7 | rdWUnmapped6To7 |
      rdBUnmapped8To15 | rdHUnmapped8To15 | rdWUnmapped8To15 | rdBUnmapped16To31 | rdHUnmapped16To31 |
      rdWUnmapped16To31 | rdBUnmapped32To63 | rdHUnmapped32To63 | rdWUnmapped32To63 =>
    exact .inr (.inl ⟨5, .word, fun _ => rfl⟩)

/-- The instruction an input stands for runs in every state that meets the input; a refused word runs as IDLE (R64). -/
theorem step_is_exec (c : CycleInput) : ∃ i, ∀ s, nextInput s = c → step s = exec i (takeInput s) := by
  cases hd : decodeInput c with
  | ok i => exact ⟨i, fun s hc => by simp only [step, hc, hd]⟩
  | error e => exact ⟨.idle, fun s hc => by simp only [step, hc, hd]; rfl⟩

/-- The two runs agree, or again differ in the leftover count alone, with `started` false. -/
def SameUpToLeftover (r : Word) (t t' : State) : Prop :=
  t' = t ∨ (t.started = false ∧ t' = { t with countdownRemaining := r })

namespace SameUpToLeftover

variable {r : Word} {t t' : State}

theorem setRdata (h : SameUpToLeftover r t t') (d : Word) : SameUpToLeftover r (t.setRdata d) (t'.setRdata d) := by
  obtain rfl | ⟨hs, rfl⟩ := h
  · exact .inl rfl
  · exact .inr ⟨hs, rfl⟩

theorem rdata_eq (h : SameUpToLeftover r t t') : t'.rdata = t.rdata := by
  obtain rfl | ⟨-, rfl⟩ := h <;> rfl

theorem irq_eq (h : SameUpToLeftover r t t') : irq t' = irq t := by
  obtain rfl | ⟨-, rfl⟩ := h <;> rfl

end SameUpToLeftover

section

variable {s : State} (hs : s.started = false) (r : Word)
include hs

theorem tick_of_not_started : tick s = s := by
  obtain ⟨h, -⟩ | ⟨h, -⟩ | ⟨h, -⟩ | ⟨-, e⟩ := tick_cases s
  · simp [hs] at h
  · simp [hs] at h
  · simp [hs] at h
  · exact e

/-- No register read sees the leftover count: STATUS masks it by `started`, COUNTDOWN reads the reload value. -/
theorem regRead_leftover (a : Nat) (w : Width) : regRead a w { s with countdownRemaining := r } = regRead a w s := by
  have hst : statusWord { s with countdownRemaining := r } = statusWord s := by simp [statusWord, counterActive, hs]
  match a with
  | 0 | 1 | 2 | 3 => rfl
  | 4 => exact (readStatus_eq w _).trans (hst.trans (readStatus_eq w s).symm)
  | n + 5 => rfl

/-- A START that takes effect overwrites the leftover count; every other write carries it along. -/
theorem regWrite_leftover (a : Nat) (w : Width) (v : Word) :
    SameUpToLeftover r (regWrite a w v s) (regWrite a w v { s with countdownRemaining := r }) := by
  match a with
  | 0 =>
    by_cases hv : v = 0#32
    · exact .inr (by simp [regWrite, writeEnable, State.setEnabled, State.setStarted, hv])
    · exact .inr (by simp [regWrite, writeEnable, State.setEnabled, hv, hs])
  | 1 =>
    by_cases hc : s.countdownConfigured = 0#32
    · exact .inr (by simp [regWrite, writeStart, hc, hs])
    · exact .inl (by simp [regWrite, writeStart, hc, reload, State.setEnabled, State.setStarted, State.setRemaining])
  | 2 => exact .inr ⟨hs, rfl⟩
  | 3 => exact .inr (by simp [regWrite, writeTap, validTap, hs])
  | 4 | n + 5 => exact .inr ⟨hs, rfl⟩

/-- No instruction tells two leftover counts apart (R36 for one cycle). -/
theorem exec_leftover (i : Instr) : ∃ t t', exec i s = .next t ∧
    exec i { s with countdownRemaining := r } = .next t' ∧ SameUpToLeftover r t t' := by
  have ht : tick s = s := tick_of_not_started hs
  have ht' : tick { s with countdownRemaining := r } = { s with countdownRemaining := r } := tick_of_not_started hs
  obtain ⟨a, w, v, h⟩ | ⟨a, w, h⟩ | h | h := exec_is_cycle i <;> refine ⟨_, _, h _, h _, ?_⟩
  · rw [writeCycle, writeCycle, ht, ht']
    exact (regWrite_leftover hs r a w v).setRdata 0#32
  · rw [readCycle, readCycle, ht, ht', regRead_leftover hs r]
    exact .inr ⟨hs, rfl⟩
  · rw [idleCycle, idleCycle, ht, ht']
    exact .inr ⟨hs, rfl⟩
  · exact .inl rfl

end

/-- Settles O49: both states meet the same input, and no instruction tells them apart. -/
theorem leftoverCountUnobservable : Obligations.LeftoverCountUnobservable := by
  intro s r hs
  obtain ⟨i, hi⟩ := step_is_exec (nextInput s)
  obtain ⟨t, t', h, h', hsame⟩ := exec_leftover (s := takeInput s) hs r i
  exact ⟨t, t', (hi s rfl).trans h, (hi { s with countdownRemaining := r } rfl).trans h', hsame.rdata_eq, hsame.irq_eq,
    hsame⟩

/-! ## The state after reset (R35) -/

/-- After reset every register reads 0. -/
theorem regRead_reset (a : Nat) (w : Width) : regRead a w State.reset = 0#32 := by
  obtain ⟨-, e⟩ | ⟨-, e⟩ | ⟨-, -, e⟩ := regRead_cases a w State.reset
  · exact e.trans (narrow_zero w)
  · exact e.trans (by decide)
  · exact e

/-- Settles O14: the fields by definition, the registers by `regRead_reset`. -/
theorem resetLeavesS0 : Obligations.ResetLeavesS0 :=
  ⟨rfl, rfl, rfl, rfl, rfl, rfl, rfl, regRead_reset⟩

end Sys2Proof.Proofs
end

section
/-!
PROOFS. The family of `20_memory.md`: the unmapped selectors (R43), mixed widths at COUNTDOWN (R46, R47, R58), reads
without side effects (R50) and repeated writes (R51).
-/

namespace Sys2Proof.Proofs

open Sys2Proof.Machine Sys2Proof.Safety Sys2Proof.Laws

/-! ## Unmapped selectors (R43) -/

/-- Settles O52: the cases of a write and of a read that need a selector below 5 fall away. -/
theorem unmappedSelectorsAlike : Obligations.UnmappedSelectorsAlike := by
  intro addr w v s ha
  constructor
  · obtain ⟨h, -⟩ | ⟨h, -⟩ | ⟨h, -⟩ | ⟨h, -⟩ | ⟨-, e⟩ := regWrite_cases addr w v s
    case inr.inr.inr.inr => exact e
    all_goals omega
  · obtain ⟨h, -⟩ | ⟨h, -⟩ | ⟨-, -, e⟩ := regRead_cases addr w s
    case inr.inr => exact e
    all_goals omega

/-! ## Mixed widths at COUNTDOWN (R58) -/

/-- A COUNTDOWN read after a COUNTDOWN write, each at its own width, sees the merged lanes (R46, R47). -/
theorem regRead_regWrite_countdown (w w' : Width) (v : Word) (s : State) :
    regRead 2 w (regWrite 2 w' v s) = narrow w (mergeLanes w' s.countdownConfigured v) := rfl

/-- A half-word, then a byte, laid over a word: upper half of the word, upper byte of the half-word, the byte. -/
theorem mergeLanes_byte_half_toNat (x : Word) (h : Half) (b : Byte) :
    (mergeLanes .byte (mergeLanes .half x (h.setWidth 32)) (b.setWidth 32)).toNat =
      x.toNat / 65536 * 65536 + h.toNat / 256 * 256 + b.toNat := by
  have := h.isLt
  have := b.isLt
  rw [mergeLanes_byte_toNat, mergeLanes_half_toNat, BitVec.toNat_setWidth, BitVec.toNat_setWidth]
  omega

/-- A COUNTDOWN read, as a number, after the word, half-word and byte writes of R58. -/
theorem regRead_mixed_toNat (w : Width) (s : State) (x : Word) (h : Half) (b : Byte) :
    (regRead 2 w (regWrite 2 .byte (b.setWidth 32) (regWrite 2 .half (h.setWidth 32) (regWrite 2 .word x s)))).toNat =
      (x.toNat / 65536 * 65536 + h.toNat / 256 * 256 + b.toNat) % 2 ^ w.bits := by
  rw [regRead_regWrite_countdown, narrow_toNat]
  exact congrArg (· % 2 ^ w.bits) (mergeLanes_byte_half_toNat x h b)

/-- Settles O51: the merged number modulo each access width, and the spec's example as an instance of it. -/
theorem mixedWidthCountdown : Obligations.MixedWidthCountdown := by
  constructor
  · intro s x h b t
    have := x.isLt
    have := h.isLt
    have := b.isLt
    have read (w : Width) : (regRead 2 w t).toNat =
        (x.toNat / 65536 * 65536 + h.toNat / 256 * 256 + b.toNat) % 2 ^ w.bits := regRead_mixed_toNat w s x h b
    refine ⟨?_, ?_, ?_⟩ <;> rw [read] <;> simp only [Width.bits] <;> omega
  · exact fun s => BitVec.eq_of_toNat_eq (regRead_mixed_toNat .word s 0x11223344#32 0x0000#16 0x04#8)

/-! ## Repeated writes (R51) -/

theorem writeEnable_idem (v : Word) (s : State) : writeEnable v (writeEnable v s) = writeEnable v s := by
  by_cases hv : v = 0#32
  · simp [writeEnable, hv, State.setEnabled, State.setStarted]
  · simp [writeEnable, hv, State.setEnabled]

/-- The second START finds the same reload value, and the count already at it. -/
theorem writeStart_idem (v : Word) (s : State) : writeStart v (writeStart v s) = writeStart v s := by
  by_cases hc : s.countdownConfigured = 0#32
  · simp [writeStart, hc]
  · simp [writeStart, hc, reload, State.setEnabled, State.setStarted, State.setRemaining]

/-- Writing the same lanes again keeps the register. -/
theorem mergeLanes_idem (w : Width) (old v : Word) : mergeLanes w (mergeLanes w old v) v = mergeLanes w old v := by
  apply BitVec.eq_of_getLsbD_eq
  intro k _
  simp only [mergeLanes_getLsbD]
  split_ifs <;> rfl

theorem writeCountdown_idem (w : Width) (v : Word) (s : State) :
    writeCountdown w v (writeCountdown w v s) = writeCountdown w v s := by
  simp [writeCountdown_eq, mergeLanes_idem]

/-- A valid tap leaves `enabled`, `started` and the reload value, so the second one is valid and reloads the same. -/
theorem writeTap_idem (v : Word) (s : State) : writeTap v (writeTap v s) = writeTap v s := by
  obtain ⟨he, hs, hv, e⟩ | ⟨-, e⟩ := writeTap_cases v s
  · obtain ⟨-, -, -, e'⟩ | ⟨hn, -⟩ := writeTap_cases v (writeTap v s)
    · rw [e', e]
    · rw [e] at hn
      exact absurd ⟨he, hs, hv⟩ hn
  · rw [e, e]

/-- Settles O50: register by register. -/
theorem writesAreIdempotent : Obligations.WritesAreIdempotent := by
  intro addr w v s
  match addr with
  | 0 => exact writeEnable_idem v s
  | 1 => exact writeStart_idem v s
  | 2 => exact writeCountdown_idem w v s
  | 3 => exact writeTap_idem v s
  | 4 | n + 5 => rfl

/-! ## Reads (R50) -/

/-- No register read sees the read-data output. -/
theorem regRead_setRdata (a : Nat) (w : Width) (d : Word) (s : State) : regRead a w (s.setRdata d) = regRead a w s := by
  match a with
  | 0 | 1 | 2 | 3 | 4 | n + 5 => rfl

/-- A read leaves the state with the register's value on the read-data output. -/
theorem access_of_read {t : Txn} (ht : t.op = .read) (s : State) :
    access t s = s.setRdata (regRead t.addr.toNat t.width s) := by
  simp only [access, ht]

theorem access_read_idem {t : Txn} (ht : t.op = .read) (s : State) : access t (access t s) = access t s := by
  rw [access_of_read ht s, access_of_read ht, regRead_setRdata]
  rfl

theorem writesTo_eq_false_of_isRead {i : Instr} (h : isRead i = true) (a : Nat) : writesTo a i = false := by
  cases ht : i.txn with
  | none => simp [writesTo, ht]
  | some t =>
    have ho : t.op = .read := by simpa [isRead, ht] using h
    simp [writesTo, ht, ho]

/-- The cycle of a read is the tick, and new read data. -/
theorem CycleEffect.eq_tick_of_isRead {i : Instr} {s t : State} (h : CycleEffect i s t) (hr : isRead i = true) :
    ∃ d, t = { tick s with rdata := d } := by
  cases h with
  | tickOnly _ d => exact ⟨d, rfl⟩
  | reset hi => simp [hi, isRead, Instr.txn] at hr
  | enable _ hw | disable _ hw | start _ hw | countdown _ hw | tap _ hw =>
    simp [writesTo_eq_false_of_isRead hr] at hw

/-- A running watchdog: the next cycle's STATUS read sees it still running, the one after that sees it expired. -/
def twoCountsLeft : State :=
  { State.reset with enabled := true, started := true, countdownConfigured := 5#32, countdownRemaining := 2#32 }

/-- Settles O41: a read's access and a read's cycle, and two STATUS reads around the expiry of `twoCountsLeft`. -/
theorem readsChangeNoField : Obligations.ReadsChangeNoField := by
  refine ⟨fun t s ht => ⟨?_, access_read_idem ht s⟩, fun i s hr => ?_, ?_⟩
  · rw [access_of_read ht]
    rfl
  · obtain ⟨t, ht, -⟩ := exec_cases i s
    obtain ⟨d, rfl⟩ := (cycleEffect_of_exec ht).eq_tick_of_isRead hr
    exact ⟨d, ht⟩
  · have running : exec .rdWStatus twoCountsLeft =
        .next { twoCountsLeft with countdownRemaining := 1#32, rdata := 0b1011#32 } := rfl
    have expired : exec .rdWStatus { twoCountsLeft with countdownRemaining := 1#32, rdata := 0b1011#32 } =
        .next { twoCountsLeft with countdownRemaining := 0#32, timeoutPending := true, rdata := 0b0111#32 } := rfl
    exact ⟨_, _, _, running, expired, by decide⟩

end Sys2Proof.Proofs
end

section
/-!
PROOFS. The family of `30_encoding.md`: the instruction an input decodes to is well-formed (R61, R67, R74), and a step runs
it (`42_tick_countdown.md` R120).
-/

namespace Sys2Proof.Proofs

open Sys2Proof.Machine Sys2Proof.Laws

/-! ## The address groups (R67) -/

/-- The first and the last selector of a group. -/
def groupBounds : RegGroup → Nat × Nat
  | .enable => (0, 0)
  | .start => (1, 1)
  | .countdown => (2, 2)
  | .tap => (3, 3)
  | .status => (4, 4)
  | .unmapped5 => (5, 5)
  | .unmapped6To7 => (6, 7)
  | .unmapped8To15 => (8, 15)
  | .unmapped16To31 => (16, 31)
  | .unmapped32To63 => (32, 63)

/-- A group is its range of selectors. -/
theorem group_eq_iff (a : Addr) (g : RegGroup) :
    Addr.group a = g ↔ Addr.inRange (groupBounds g).1 (groupBounds g).2 a = true := by
  revert a
  cases g <;> decide

/-- Every selector lies within its own group's bounds. -/
theorem inRange_group (a : Addr) :
    Addr.inRange (groupBounds (Addr.group a)).1 (groupBounds (Addr.group a)).2 a = true :=
  (group_eq_iff a _).mp rfl

/-! ## What the decoder answers is well-formed (R67, R74) -/

/-- The operation map gives a row of several unmapped selectors only a selector of that row's range. -/
theorem select_wellFormed (x : Txn) : x.select.WellFormed := by
  obtain ⟨op, w, addr, v⟩ := x
  have hr := inRange_group addr
  simp only [Txn.select]
  generalize Addr.group addr = g at hr ⊢
  cases g
  case enable | start | countdown | tap | status | unmapped5 => cases op <;> cases w <;> rfl
  case unmapped6To7 | unmapped8To15 | unmapped16To31 | unmapped32To63 => cases op <;> cases w <;> exact hr

/-- A decoded word is the row that its tuple selects. -/
theorem decode_ok {t : TxnWord} {i : Instr} (h : decode t = .ok i) : ∃ x, t.unpack = .ok x ∧ i = x.select := by
  cases hu : t.unpack with
  | error e => simp [decode, hu, Except.map] at h
  | ok x => exact ⟨x, rfl, by simpa [decode, hu, Except.map] using h.symm⟩

theorem decode_wellFormed {t : TxnWord} {i : Instr} (h : decode t = .ok i) : i.WellFormed := by
  obtain ⟨x, -, rfl⟩ := decode_ok h
  exact select_wellFormed x

/-- The three inputs that decode: reset, nothing presented, and a word that `decode` accepts. -/
theorem decodeInput_ok {c : CycleInput} {i : Instr} (h : decodeInput c = .ok i) :
    (c.reset = true ∧ i = .reset) ∨ (c.reset = false ∧ c.txn = none ∧ i = .idle) ∨
      ∃ t, c.reset = false ∧ c.txn = some t ∧ decode t = .ok i := by
  obtain ⟨reset, txn⟩ := c
  match reset, txn with
  | true, _ => exact .inl ⟨rfl, (Except.ok.inj h).symm⟩
  | false, none => exact .inr (.inl ⟨rfl, rfl, (Except.ok.inj h).symm⟩)
  | false, some t => exact .inr (.inr ⟨t, rfl, rfl, h⟩)

theorem decodeInput_wellFormed {c : CycleInput} {i : Instr} (h : decodeInput c = .ok i) : i.WellFormed := by
  obtain ⟨-, rfl⟩ | ⟨-, -, rfl⟩ | ⟨t, -, -, ht⟩ := decodeInput_ok h
  · rfl
  · rfl
  · exact decode_wellFormed ht

/-! ## The step (R120) -/

theorem step_of_decodeInput_ok {s : State} {i : Instr} (h : decodeInput (nextInput s) = .ok i) :
    step s = exec i (takeInput s) := by
  simp only [step, h]

theorem nextInput_eq_headD (s : State) : nextInput s = s.inputs.headD ⟨false, none⟩ := by
  obtain ⟨hl, e⟩ | ⟨c, rest, hl, e⟩ := nextInput_cases s <;> simp [hl, e]

/-- Settles O6: the decoder answers well-formed instructions only, and `step` runs the one it answers. -/
theorem stepRunsDecodedInput : Obligations.StepRunsDecodedInput :=
  fun s _ h => ⟨decodeInput_wellFormed h, step_of_decodeInput_ok h, nextInput_eq_headD s⟩

end Sys2Proof.Proofs
end

section
/-!
PROOFS. The family of `40_register_writes.md`: the cycle of each register write in closed form (R81 to R88, under R120),
said once for all access widths of at most 32 bits.
-/

namespace Sys2Proof.Proofs

open Sys2Proof.Machine Sys2Proof.Laws

/-! ## The written value -/

section

variable {n : Nat} (hn : n ≤ 32)
include hn

/-- The zero extension of a written value keeps its number (R45). -/
theorem zext32_toNat (v : BitVec n) : (zext32 v).toNat = v.toNat :=
  BitVec.toNat_setWidth_of_le hn

/-- A written value equals a word exactly when the numbers agree. -/
theorem zext32_eq_iff (v : BitVec n) (x : Word) : zext32 v = x ↔ v.toNat = x.toNat := by
  rw [← BitVec.toNat_inj, zext32_toNat hn]

/-! ## The cycle of a write, register by register -/

/-- ENABLE (R81): the tick keeps `enabled` and `started`, then the write decides them by the value's number. -/
theorem writeEnable_cycle (v : BitVec n) (s : State) :
    writeCycle (writeEnable (zext32 v)) s = { tick s with
      enabled := decide (v.toNat ≠ 0), started := s.started && decide (v.toNat ≠ 0), rdata := 0#32 } := by
  have h0 : zext32 v = 0#32 ↔ v.toNat = 0 := zext32_eq_iff hn v 0#32
  obtain ⟨hv, e⟩ | ⟨hv, e⟩ := writeEnable_cases (zext32 v) (tick s)
  · simp [e, mt h0.mpr hv]
  · simp [e, h0.mp hv]

/-- TAP (R86): the tick keeps `enabled`, `started` and the reload value, so the tap is judged on those before it. -/
theorem writeTap_cycle (v : BitVec n) (s : State) :
    writeCycle (writeTap (zext32 v)) s = if s.enabled ∧ s.started ∧ v.toNat = 0xABCD
      then { tick s with countdownRemaining := s.countdownConfigured, timeoutPending := false, rdata := 0#32 }
      else { tick s with rdata := 0#32 } := by
  have hcode : zext32 v = 0x0000ABCD#32 ↔ v.toNat = 0xABCD := zext32_eq_iff hn v 0x0000ABCD#32
  obtain ⟨he, hs, hv, e⟩ | ⟨hno, e⟩ := writeTap_cases (zext32 v) (tick s)
  · rw [tick_enabled] at he
    rw [tick_started] at hs
    simp [e, he, hs, hcode.mp hv]
  · rw [tick_enabled, tick_started, hcode] at hno
    rw [writeCycle_eq, e, if_neg hno]

end

/-- START (R82): the tick keeps the reload value, so the write finds the one before it; the value does not matter (D10). -/
theorem writeStart_cycle (v : Word) (s : State) :
    writeCycle (writeStart v) s = if s.countdownConfigured.toNat = 0 then { tick s with rdata := 0#32 }
      else { tick s with enabled := true, started := true, countdownRemaining := s.countdownConfigured, rdata := 0#32 } := by
  have h0 : s.countdownConfigured = 0#32 ↔ s.countdownConfigured.toNat = 0 := BitVec.toNat_inj.symm
  obtain ⟨hc, e⟩ | ⟨hc, e⟩ := writeStart_cases v (tick s) <;> rw [tick_configured] at hc
  · simp [e, mt h0.mpr hc]
  · rw [writeCycle_eq, e, if_pos (h0.mp hc)]

/-- COUNTDOWN (R83 to R85): the lanes of the width are laid over the reload value, which the tick keeps. -/
theorem writeCountdown_cycle (w : Width) (v : Word) (s : State) :
    writeCycle (writeCountdown w v) s =
      { tick s with countdownConfigured := mergeLanes w s.countdownConfigured v, rdata := 0#32 } := by
  rw [writeCycle_eq, writeCountdown_eq, tick_configured]

/-! ## The obligations -/

/-- Settles O27: the lanes as numbers by `mergeLanes_byte_toNat` and `mergeLanes_half_toNat`. -/
theorem countdownWriteResult : Obligations.CountdownWriteResult := by
  refine ⟨fun v s => ⟨_, ?_, congrArg Host.Outcome.next (writeCountdown_cycle .byte (zext32 v) s)⟩,
    fun v s => ⟨_, ?_, congrArg Host.Outcome.next (writeCountdown_cycle .half (zext32 v) s)⟩, fun v s => ?_⟩
  · rw [mergeLanes_byte_toNat, zext32_toNat (by decide), Nat.mod_eq_of_lt v.isLt]
  · rw [mergeLanes_half_toNat, zext32_toNat (by decide), Nat.mod_eq_of_lt v.isLt]
  · have hv : mergeLanes .word s.countdownConfigured (zext32 v) = v := BitVec.setWidth_eq v
    rw [← hv]
    exact congrArg Host.Outcome.next (writeCountdown_cycle .word (zext32 v) s)

/-- Settles O28: `writeTap_cycle` at each width; a byte is below 0xABCD. -/
theorem tapWriteResult : Obligations.TapWriteResult := by
  refine ⟨fun v s => ?_, fun v s => congrArg Host.Outcome.next (writeTap_cycle (by decide) v s),
    fun v s => congrArg Host.Outcome.next (writeTap_cycle (by decide) v s)⟩
  have hbyte : ¬ (s.enabled ∧ s.started ∧ v.toNat = 0xABCD) := by
    have := v.isLt
    omega
  exact congrArg Host.Outcome.next ((writeTap_cycle (by decide) v s).trans (if_neg hbyte))

/-- Settles O25: `writeEnable_cycle` at each width. -/
theorem enableWriteResult : Obligations.EnableWriteResult :=
  ⟨fun v s => congrArg Host.Outcome.next (writeEnable_cycle (by decide) v s),
    fun v s => congrArg Host.Outcome.next (writeEnable_cycle (by decide) v s),
    fun v s => congrArg Host.Outcome.next (writeEnable_cycle (by decide) v s)⟩

/-- Settles O26: `writeStart_cycle` at each width. -/
theorem startWriteResult : Obligations.StartWriteResult :=
  ⟨fun v s => congrArg Host.Outcome.next (writeStart_cycle (zext32 v) s),
    fun v s => congrArg Host.Outcome.next (writeStart_cycle (zext32 v) s),
    fun v s => congrArg Host.Outcome.next (writeStart_cycle (zext32 v) s)⟩

/-- Settles O29: the writes of STATUS and of an unmapped selector are the identity, so their cycles are the tick's. -/
theorem noEffectWrites : Obligations.NoEffectWrites := by
  have status {n : Nat} (v : BitVec n) (s : State) : (.next (writeCycle (writeStatus (zext32 v)) s) :
      Host.Outcome State Fault Refusal) = .next { tick s with rdata := 0#32 } := by
    rw [writeCycle_eq, writeStatus_eq]
  have unmapped {n : Nat} (v : BitVec n) (s : State) : (.next (writeCycle (writeUnmapped (zext32 v)) s) :
      Host.Outcome State Fault Refusal) = .next { tick s with rdata := 0#32 } := by
    rw [writeCycle_eq, writeUnmapped_eq]
  exact ⟨status, status, status, unmapped, unmapped, unmapped,
    fun _ => unmapped, fun _ => unmapped, fun _ => unmapped, fun _ => unmapped, fun _ => unmapped, fun _ => unmapped,
    fun _ => unmapped, fun _ => unmapped, fun _ => unmapped, fun _ => unmapped, fun _ => unmapped, fun _ => unmapped⟩

end Sys2Proof.Proofs
end

section
/-!
PROOFS. The family of `41_register_reads.md`: the cycle of each register read in closed form (R101 to R108, under R121), and
the read data of every instruction against its access width (R100, R47, R75, R89).
-/

namespace Sys2Proof.Proofs

open Sys2Proof.Machine Sys2Proof.Safety Sys2Proof.Laws

/-! ## The cycle of a read, register by register -/

/-- STATUS as a number: the four flags, one bit each from bit 0 up (R33, R104). -/
theorem statusWord_toNat (s : State) : (statusWord s).toNat =
    s.enabled.toNat + 2 * s.started.toNat + 4 * s.timeoutPending.toNat + 8 * (counterActive s).toNat := by
  simp only [statusWord]
  generalize s.enabled = en, s.started = st, s.timeoutPending = tp, counterActive s = act
  revert en st tp act
  decide

/-- STATUS (R104): the flags of the state the tick left, the same word at every width. -/
theorem readStatus_cycle (w : Width) (s : State) :
    readCycle (readStatus w) s = { tick s with rdata := statusWord (tick s) } := by
  rw [readCycle_eq, readStatus_eq]

/-- COUNTDOWN (R101 to R103): the tick keeps the reload value, so the read finds the one before it. -/
theorem readCountdown_cycle (w : Width) (s : State) :
    readCycle (readCountdown w) s = { tick s with rdata := narrow w s.countdownConfigured } := by
  rw [readCycle_eq, readCountdown, tick_configured]

/-- A register that reads 0 in every state (R105 to R108): its cycle is the tick's, with read data 0. -/
theorem readCycle_of_eq_zero {read : State → Word} (h : ∀ u, read u = 0#32) (s : State) :
    readCycle read s = { tick s with rdata := 0#32 } := by
  rw [readCycle_eq, h]

/-! ## Read data and access width (R47, R75) -/

theorem narrow_toNat_lt (w : Width) (v : Word) : (narrow w v).toNat < 2 ^ w.bits := by
  rw [narrow_toNat]
  exact Nat.mod_lt _ (Nat.two_pow_pos _)

theorem isRead_of_txn {i : Instr} {x : Txn} (hx : i.txn = some x) : isRead i = (x.op == .read) := by
  simp only [isRead, hx]

/-- What an instruction leaves on the read-data output: a read some word narrowed to its width, and any other
instruction 0. -/
theorem exec_rdata_cases (i : Instr) (s : State) :
    (∃ x v, i.txn = some x ∧ x.op = .read ∧ exec i s = .next { tick s with rdata := narrow x.width v }) ∨
    (isRead i = false ∧ ∃ t, exec i s = .next t ∧ t.rdata = 0#32) := by
  cases i
  case rdBCountdown | rdHCountdown | rdWCountdown => exact .inl ⟨_, (tick s).countdownConfigured, rfl, rfl, rfl⟩
  case rdBStatus | rdHStatus | rdWStatus => exact .inl ⟨_, statusWord (tick s), rfl, rfl, rfl⟩
  case rdBEnable | rdHEnable | rdWEnable | rdBStart | rdHStart | rdWStart | rdBTap | rdHTap | rdWTap |
      rdBUnmapped5 | rdHUnmapped5 | rdWUnmapped5 | rdBUnmapped6To7 | rdHUnmapped6To7 | rdWUnmapped6To7 |
      rdBUnmapped8To15 | rdHUnmapped8To15 | rdWUnmapped8To15 | rdBUnmapped16To31 | rdHUnmapped16To31 |
      rdWUnmapped16To31 | rdBUnmapped32To63 | rdHUnmapped32To63 | rdWUnmapped32To63 =>
    exact .inl ⟨_, 0#32, rfl, rfl, rfl⟩
  all_goals exact .inr ⟨rfl, _, rfl, rfl⟩

/-! ## The obligations -/

/-- Settles O38: `readStatus_cycle` at each width, its one word as a number by `statusWord_toNat`. -/
theorem statusReadResult : Obligations.StatusReadResult :=
  fun s => ⟨statusWord (tick s), statusWord_toNat (tick s), congrArg Host.Outcome.next (readStatus_cycle .byte s),
    congrArg Host.Outcome.next (readStatus_cycle .half s), congrArg Host.Outcome.next (readStatus_cycle .word s)⟩

/-- Settles O39: `readCountdown_cycle` at each width; narrowing to a word is the identity. -/
theorem countdownReadResult : Obligations.CountdownReadResult :=
  ⟨fun s => ⟨_, narrow_toNat .byte s.countdownConfigured, congrArg Host.Outcome.next (readCountdown_cycle .byte s)⟩,
    fun s => ⟨_, narrow_toNat .half s.countdownConfigured, congrArg Host.Outcome.next (readCountdown_cycle .half s)⟩,
    fun s => congrArg Host.Outcome.next (readCountdown_cycle .word s)⟩

/-- Settles O53: the two cases of `exec_rdata_cases`, and a narrowed word is below the bound of its width. -/
theorem readDataFitsWidth : Obligations.ReadDataFitsWidth := by
  intro i s t h
  obtain ⟨x, v, hx, hop, e⟩ | ⟨hr, u, e, hu⟩ := exec_rdata_cases i s <;> cases h.symm.trans e
  · refine ⟨fun y hy _ => ?_, fun hr => ?_⟩
    · cases hx.symm.trans hy
      exact narrow_toNat_lt x.width v
    · simp [isRead_of_txn hx, hop] at hr
  · refine ⟨fun x hx hop => ?_, fun _ => hu⟩
    simp [isRead_of_txn hx, hop] at hr

/-- Settles O40: ENABLE, START, TAP and the unmapped selectors read 0 in every state. -/
theorem zeroReads : Obligations.ZeroReads := by
  have zero {read : State → Word} (h : ∀ u, read u = 0#32) (s : State) : (.next (readCycle read s) :
      Host.Outcome State Fault Refusal) = .next { tick s with rdata := 0#32 } :=
    congrArg Host.Outcome.next (readCycle_of_eq_zero h s)
  have unmapped (w : Width) := zero (readUnmapped_eq w)
  exact ⟨zero (readEnable_eq .byte), zero (readEnable_eq .half), zero (readEnable_eq .word),
    zero (readStart_eq .byte), zero (readStart_eq .half), zero (readStart_eq .word),
    zero (readTap_eq .byte), zero (readTap_eq .half), zero (readTap_eq .word),
    unmapped .byte, unmapped .half, unmapped .word,
    fun _ => unmapped .byte, fun _ => unmapped .half, fun _ => unmapped .word,
    fun _ => unmapped .byte, fun _ => unmapped .half, fun _ => unmapped .word,
    fun _ => unmapped .byte, fun _ => unmapped .half, fun _ => unmapped .word,
    fun _ => unmapped .byte, fun _ => unmapped .half, fun _ => unmapped .word⟩

end Sys2Proof.Proofs
end

section
/-!
PROOFS. The family of `42_tick_countdown.md`: the clock cycle as one function of the undecoded input (R120), the tick and its
clamp (R111 to R115), the zero-reload state (R114), and the time to expiry (R116, R123, R211).
-/

namespace Sys2Proof.Proofs

open Sys2Proof.Machine Sys2Proof.Safety Sys2Proof.Laws

/-! ## The operation map against the dispatch by selector (R67, R80, R100) -/

theorem inRange_iff {lo hi : Nat} {a : Addr} : Addr.inRange lo hi a = true ↔ lo ≤ a.toNat ∧ a.toNat ≤ hi := by
  simp [Addr.inRange]

/-- A range of one selector is that selector. -/
theorem eq_ofNat_of_inRange_self {n : Nat} {a : Addr} (h : Addr.inRange n n a = true) : a = BitVec.ofNat 6 n := by
  obtain ⟨hlo, hhi⟩ := inRange_iff.mp h
  rw [← Nat.le_antisymm hhi hlo, BitVec.ofNat_toNat, BitVec.setWidth_eq]

/-- An access to an unmapped selector only drives the read-data output, with 0 (R88, R108). -/
theorem access_unmapped {x : Txn} (hx : 5 ≤ x.addr.toNat) (s : State) : access x s = s.setRdata 0#32 := by
  obtain ⟨hw, hr⟩ := unmappedSelectorsAlike x.addr.toNat x.width x.value s hx
  cases hop : x.op with
  | write => simp only [access, hop, hw]
  | read => simp only [access, hop, hr]

/-- The row a tuple selects runs as the tick and then the access of that tuple, its value cut to the width (R66, R120). -/
theorem exec_select (x : Txn) (s : State) :
    exec x.select s = .next (access { x with value := operandValue x.width x.value } (tick s)) := by
  obtain ⟨op, w, addr, v⟩ := x
  have hr := inRange_group addr
  have unmapped (h : 5 ≤ addr.toNat) := access_unmapped (x := ⟨op, w, addr, operandValue w v⟩) h (tick s)
  simp only [Txn.select]
  generalize Addr.group addr = g at hr ⊢
  cases g
  case enable | start | countdown | tap | status =>
    obtain rfl := eq_ofNat_of_inRange_self hr
    cases op <;> cases w <;> rfl
  case unmapped5 | unmapped6To7 | unmapped8To15 | unmapped16To31 | unmapped32To63 =>
    rw [unmapped (le_trans (by decide) (inRange_iff.mp hr).1)]
    cases op <;> cases w <;> rfl

/-! ## The value a tuple carries (R62, R66) -/

/-- The tuple carries a value of its own width, and none on a read (R60). -/
def TxnFits (x : Txn) : Prop := operandValue x.width x.value = x.value ∧ (x.op = .read → x.value = 0#32)

theorem operandValue_zero (w : Width) : operandValue w 0#32 = 0#32 := by cases w <;> rfl

theorem operandValue_idem (w : Width) (v : Word) : operandValue w (operandValue w v) = operandValue w v := by
  apply BitVec.eq_of_getLsbD_eq
  intro k _
  simp only [operandValue_getLsbD, ← Bool.and_assoc, Bool.and_self]

/-- What a word unpacks to fits. -/
theorem txnFits_of_unpack {t : TxnWord} {x : Txn} (h : t.unpack = .ok x) : TxnFits x := by
  obtain ⟨-, e⟩ | ⟨w, -, ⟨-, e⟩ | ⟨-, e⟩⟩ := unpack_cases t
  · cases e.symm.trans h
  · cases e.symm.trans h
    exact ⟨operandValue_idem w t.data, nofun⟩
  · cases e.symm.trans h
    exact ⟨operandValue_zero w, fun _ => rfl⟩

/-- A tuple that fits survives packing. -/
theorem unpack_pack {x : Txn} (h : TxnFits x) : x.pack.unpack = .ok x := by
  obtain ⟨op, w, addr, v⟩ := x
  cases op with
  | write => exact (unpack_pack_write w addr v).trans (by rw [h.1])
  | read =>
    obtain rfl : v = 0#32 := h.2 rfl
    exact unpack_pack_read w addr 0#32

/-! ## Decode of encode (R74) -/

/-- The tuple of an instruction fits: a write's value is extended from its own width, a read's is 0. -/
theorem txnFits_of_txn {i : Instr} {x : Txn} (hx : i.txn = some x) : TxnFits x := by
  cases i <;> cases hx <;>
    simp only [TxnFits, operandValue_byte, operandValue_half, operandValue_word, operandValue_zero, reduceCtorEq,
      false_imp_iff, implies_true, and_self]

/-- The tuple of a well-formed instruction selects its row (R67). -/
theorem select_of_txn {i : Instr} {x : Txn} (hwf : i.WellFormed) (hx : i.txn = some x) : x.select = i := by
  have group {a : Addr} (g : RegGroup) (ha : Addr.inRange (groupBounds g).1 (groupBounds g).2 a = true) :
      Addr.group a = g := (group_eq_iff a g).mpr ha
  cases i <;> cases hx
  case wrBUnmapped6To7 | wrHUnmapped6To7 | wrWUnmapped6To7 | rdBUnmapped6To7 | rdHUnmapped6To7 | rdWUnmapped6To7 =>
    simp [Txn.select, group .unmapped6To7 hwf]
  case wrBUnmapped8To15 | wrHUnmapped8To15 | wrWUnmapped8To15 | rdBUnmapped8To15 | rdHUnmapped8To15 |
      rdWUnmapped8To15 =>
    simp [Txn.select, group .unmapped8To15 hwf]
  case wrBUnmapped16To31 | wrHUnmapped16To31 | wrWUnmapped16To31 | rdBUnmapped16To31 | rdHUnmapped16To31 |
      rdWUnmapped16To31 =>
    simp [Txn.select, group .unmapped16To31 hwf]
  case wrBUnmapped32To63 | wrHUnmapped32To63 | wrWUnmapped32To63 | rdBUnmapped32To63 | rdHUnmapped32To63 |
      rdWUnmapped32To63 =>
    simp [Txn.select, group .unmapped32To63 hwf]
  all_goals simp [Txn.select, Addr.group]

/-- The decoder reads a well-formed instruction back from its encoding (R62, R67, R74). -/
theorem decodeInput_encode {i : Instr} (hwf : i.WellFormed) : decodeInput (encode i) = .ok i := by
  cases hx : i.txn with
  | some x =>
    have hne : i ≠ .reset := by
      rintro rfl
      cases hx
    have hu : x.pack.unpack = .ok x := unpack_pack (txnFits_of_txn hx)
    simp [decodeInput, encode, decode, hx, hne, hu, Except.map, select_of_txn hwf hx]
  | none => cases i <;> cases hx <;> rfl

/-! ## The cycle (R120) -/

/-- The instruction the decoder answers runs as the cycle of the undecoded input. -/
theorem exec_of_decodeInput {c : CycleInput} {i : Instr} (h : decodeInput c = .ok i) (s : State) :
    exec i s = .next (cycle c s) := by
  obtain ⟨reset, txn⟩ := c
  obtain ⟨hr, rfl⟩ | ⟨hr, ht, rfl⟩ | ⟨t, hr, ht, hd⟩ := decodeInput_ok h <;> cases hr
  · rfl
  · cases ht
    rfl
  · cases ht
    obtain ⟨x, hx, rfl⟩ := decode_ok hd
    rw [exec_select, (txnFits_of_unpack hx).1]
    simp only [cycle, hx, Bool.false_eq_true, if_false]

/-- An input the decoder refuses cycles as its refusal does (R64). -/
theorem cycle_of_decodeInput_error {c : CycleInput} {e : DecodeError} (h : decodeInput c = .error e) (s : State) :
    cycle c s = refusedCycle e s := by
  obtain ⟨reset, txn⟩ := c
  match reset, txn with
  | false, some t =>
    have hd : decode t = .error e := h
    cases hu : t.unpack with
    | ok x => simp [decode, hu, Except.map] at hd
    | error e' =>
      simp only [decode, hu, Except.map] at hd
      cases hd
      simp only [cycle, hu, Bool.false_eq_true, if_false]

/-- Settles O8: a decoded input by `exec_of_decodeInput`, a refused one by `cycle_of_decodeInput_error`. -/
theorem stepIsOneCycle : Obligations.StepIsOneCycle := by
  intro s
  cases hd : decodeInput (nextInput s) with
  | ok i => exact (step_of_decodeInput_ok hd).trans (exec_of_decodeInput hd (takeInput s))
  | error e =>
    have hstep : step s = execRefused e (takeInput s) := by simp only [step, hd]
    exact hstep.trans (congrArg Host.Outcome.next (cycle_of_decodeInput_error hd (takeInput s)).symm)

/-- Settles O9: the decoder reads an instruction back from its encoding, and runs it as that input's cycle. -/
theorem execIsCycleOfEncoding : Obligations.ExecIsCycleOfEncoding :=
  fun _ s hwf => exec_of_decodeInput (decodeInput_encode hwf) s

/-! ## The tick (R111 to R115) -/

/-- Settles O18: IDLE is the tick; its count by `tick_remaining_toNat`, its flag by the cases of `tick_cases`. -/
theorem idleCycleResult : Obligations.IdleCycleResult := by
  intro s
  refine ⟨_, rfl, tick_enabled s, tick_started s, tick_configured s, tick_inputs s, rfl, ?_, ?_, rfl⟩
  · refine (tick_remaining_toNat s).trans ?_
    cases hs : s.started with
    | true =>
      simp only [counterActive, hs, Bool.true_and, decide_eq_true_eq, if_true]
      split <;> omega
    | false => simp [counterActive, hs]
  · obtain ⟨hs, h0, h1, e⟩ | ⟨hs, h1, e⟩ | ⟨hs, h0, e⟩ | ⟨hs, e⟩ := tick_cases s
    · simp [e, hs, h0, h1]
    · simp [e, hs, h1]
    · simp [e, hs, h0]
    · simp [e, hs]

/-- Settles O20: of the cases of `tickWith_cases` only one has `started` false. -/
theorem tickDoesNothingUnlessStarted : Obligations.TickDoesNothingUnlessStarted := by
  intro s hs
  have with_eq (z : Bool) : tickWith z s = s := by
    obtain ⟨h, -⟩ | ⟨h, -⟩ | ⟨h, -⟩ | ⟨-, e⟩ := tickWith_cases z s
    case inr.inr.inr => exact e
    all_goals simp [hs] at h
  exact ⟨with_eq, with_eq Config.zeroReloadExpires⟩

/-- A tick at count 0 can only set the flag, in the one state where the parameter decides (R113, R114). -/
theorem tickWith_of_started_of_zero {s : State} (hs : s.started = true) (h0 : s.countdownRemaining = 0#32) (z : Bool) :
    tickWith z s = { s with timeoutPending := s.timeoutPending || z } := by
  obtain ⟨-, h, -⟩ | ⟨-, h, -⟩ | ⟨-, -, e⟩ | ⟨h, -⟩ := tickWith_cases z s
  · exact absurd h0 h
  · simp [h0] at h
  · exact e
  · simp [hs] at h

/-- Settles O21: `tickWith_of_started_of_zero` with the flag false. -/
theorem zeroReloadTick : Obligations.ZeroReloadTick := by
  intro s hs h0 htp
  have e (z : Bool) : tickWith z s = { s with timeoutPending := z } := by
    rw [tickWith_of_started_of_zero hs h0, htp, Bool.false_or]
  refine ⟨(e false).trans ?_, e true, e Config.zeroReloadExpires⟩
  rw [← htp]

/-- The clamp: a tick leaves a count of 0 (R113). -/
theorem tickWith_remaining_of_zero {s : State} (h0 : s.countdownRemaining = 0#32) (z : Bool) :
    (tickWith z s).countdownRemaining = 0#32 := by
  cases hs : s.started with
  | true => rw [tickWith_of_started_of_zero hs h0, h0]
  | false => rw [(tickDoesNothingUnlessStarted s hs).1, h0]

/-- A tick of the expired state with its fault recorded changes nothing (R113). -/
theorem tick_of_expired {s : State} (hs : s.started = true) (h0 : s.countdownRemaining = 0#32)
    (htp : s.timeoutPending = true) : tick s = s := by
  rw [tick, tickWith_of_started_of_zero hs h0, htp, Bool.true_or, ← htp]

/-- Settles O19: the clamp, and induction on the number of ticks. -/
theorem expiredStateStableUnderTicks : Obligations.ExpiredStateStableUnderTicks := by
  refine ⟨fun s h0 => ⟨tickWith_remaining_of_zero h0 _, tickWith_remaining_of_zero h0⟩, fun n s hs h0 htp => ⟨?_, ?_⟩⟩
  · simp [counterActive, h0]
  · induction n with
    | zero => rfl
    | succ n ih => exact (congrArg (runEvents (List.replicate n .tick)) (tick_of_expired hs h0 htp)).trans ih

/-! ## Entry into the zero-reload state (R114) -/

/-- A tick never enters the zero-reload state: the decrement to 0 sets the flag (R112). -/
theorem zeroReload_tick {s : State} (h : zeroReload s = false) : zeroReload (tick s) = false := by
  obtain ⟨-, -, h1, e⟩ | ⟨-, -, e⟩ | ⟨hs, h0, e⟩ | ⟨-, e⟩ := tick_cases s <;> rw [e]
  · simp [zeroReload, sub_one_eq_zero, h1]
  · simp [zeroReload]
  · have htp : s.timeoutPending = true := by simpa [zeroReload, hs, h0] using h
    simp [zeroReload, htp]
  · exact h

/-- An access enters the zero-reload state exactly as a valid tap with a reload value of 0. -/
theorem zeroReload_access {s : State} (h : zeroReload s = false) (x : Txn) : zeroReload (access x s) = true ↔
    (Event.access x).writes 3 = true ∧ validTap x.value s = true ∧ s.countdownConfigured = 0#32 := by
  have keeps {u : State} (hst : u.started = s.started) (hr : u.countdownRemaining = s.countdownRemaining)
      (htp : u.timeoutPending = s.timeoutPending) : zeroReload u = false := by
    rwa [zeroReload, hst, hr, htp]
  have neither {u : State} (hu : zeroReload u = false)
      (hx : (x.op = .write ∧ x.addr.toNat = 3) → validTap x.value s = false) : zeroReload u = true ↔
      (Event.access x).writes 3 = true ∧ validTap x.value s = true ∧ s.countdownConfigured = 0#32 := by
    simp +contextual [hu, Event.writes, hx]
  obtain ⟨ho, d, e⟩ | ⟨-, ha, -, e⟩ | ⟨-, ha, -, e⟩ | ⟨-, ha, hc, e⟩ | ⟨-, ha, -, e⟩ | ⟨-, ha, e⟩ |
    ⟨ho, ha, he, hs, hv, e⟩ | ⟨-, -, hno, e⟩ | ⟨-, ha, e⟩ := access_cases x s <;> rw [e]
  · exact neither (keeps rfl rfl rfl) (by simp [ho])
  · exact neither (keeps rfl rfl rfl) (by simp [ha])
  · exact neither rfl (by simp [ha])
  · exact neither (by simp [zeroReload, hc]) (by simp [ha])
  · exact neither (keeps rfl rfl rfl) (by simp [ha])
  · exact neither (keeps rfl rfl rfl) (by simp [ha])
  · simp [zeroReload, Event.writes, validTap_iff, ho, ha, he, hs, hv]
  · exact neither (keeps rfl rfl rfl) fun _ => Bool.eq_false_iff.mpr (mt (validTap_iff x.value s).mp hno)
  · exact neither (keeps rfl rfl rfl) (by omega)

/-- Settles O22: the tick and the reset never enter, an access as `zeroReload_access` says. -/
theorem zeroReloadStateEntry : Obligations.ZeroReloadStateEntry := by
  intro e s h
  cases e with
  | tick => simp [Event.apply, zeroReload_tick h, Event.writes]
  | access x => exact zeroReload_access h x
  | reset => simp [Event.apply, zeroReload, resetAll_eq, State.reset, Event.writes]

/-! ## Counting down (R116) -/

/-- `t` is what is left of `s` after `k` counts: the flag is as it was, or set by the last count of all. -/
structure CountedDown (k : Nat) (s t : State) : Prop where
  started : t.started = s.started
  remaining : t.countdownRemaining.toNat + k = s.countdownRemaining.toNat
  timeout : t.timeoutPending = (s.timeoutPending || decide (0 < k ∧ k = s.countdownRemaining.toNat))

namespace CountedDown

variable {j k : Nat} {s t u : State}

/-- Nothing counted: the three fields are as they were. -/
theorem zero (hs : t.started = s.started) (hr : t.countdownRemaining = s.countdownRemaining)
    (htp : t.timeoutPending = s.timeoutPending) : CountedDown 0 s t :=
  ⟨hs, by rw [hr, Nat.add_zero], by simp [htp]⟩

/-- Counts add up. -/
theorem trans (h : CountedDown j s t) (h' : CountedDown k t u) : CountedDown (j + k) s u := by
  have hr := h.remaining
  have hr' := h'.remaining
  refine ⟨h'.started.trans h.started, by omega, ?_⟩
  rw [h'.timeout, h.timeout, Bool.or_assoc, ← Bool.decide_or]
  congr 2
  exact propext (by omega)

/-- A tick of a running counter is one count (R111, R112). -/
theorem of_tick (hs : s.started = true) (hr : 0 < s.countdownRemaining.toNat) : CountedDown 1 s (tick s) := by
  have ha : counterActive s = true := by simp [counterActive, hs, hr]
  have hz : zeroReload s = false := by simp [zeroReload, hs, ← BitVec.toNat_inj, hr.ne']
  refine ⟨tick_started s, ?_, ?_⟩
  · rw [tick_remaining_toNat, if_pos ha]
    omega
  · rw [tick_timeoutPending, hz, hs]
    simp [← BitVec.toNat_inj, eq_comm, beq_eq_decide]

/-- A quiet event other than a tick is no count: what it writes, if anything, is not in the three fields. -/
theorem of_quiet {e : Event} (he : e ≠ .tick) (hq : e.quiet s = true) : CountedDown 0 s (e.apply s) := by
  simp only [Event.quiet, Event.clears, Event.restarts, Bool.and_eq_true, Bool.not_eq_true'] at hq
  obtain ⟨⟨hclear, hdisable⟩, hstart⟩ := hq
  cases e with
  | tick => exact absurd rfl he
  | reset => simp at hclear
  | access x =>
    show CountedDown 0 s (access x s)
    obtain ⟨-, d, e⟩ | ⟨-, -, -, e⟩ | ⟨ho, ha, hv, -⟩ | ⟨ho, ha, hc, -⟩ | ⟨-, -, -, e⟩ | ⟨-, -, e⟩ |
      ⟨ho, ha, hen, hst, hv, -⟩ | ⟨-, -, -, e⟩ | ⟨-, -, e⟩ := access_cases x s
    case inr.inr.inl => simp [Event.writes, Event.value, ho, ha, hv] at hdisable
    case inr.inr.inr.inl => simp [Event.writes, ho, ha, hc] at hstart
    case inr.inr.inr.inr.inr.inr.inl =>
      simp [Event.writes, Event.value, ho, ha, (validTap_iff _ s).mpr ⟨hen, hst, hv⟩] at hclear
    all_goals
      rw [e]
      exact zero rfl rfl rfl

/-- A quiet run counts its ticks, as long as they last (R116). -/
theorem of_quietRun {es : List Event} (hs : s.started = true) (hq : quietRun es s = true)
    (hle : tickCount es ≤ s.countdownRemaining.toNat) : CountedDown (tickCount es) s (runEvents es s) := by
  induction es generalizing s with
  | nil => exact zero rfl rfl rfl
  | cons e es ih =>
    obtain ⟨hqe, hqes⟩ := Bool.and_eq_true _ _ ▸ hq
    have go {k : Nat} (h : CountedDown k s (e.apply s)) (hk : tickCount (e :: es) = k + tickCount es) :
        CountedDown (tickCount (e :: es)) s (runEvents (e :: es) s) := by
      have := h.remaining
      exact hk ▸ h.trans (ih (h.started.trans hs) hqes (by omega))
    cases e with
    | tick => exact go (of_tick hs (Nat.lt_of_lt_of_le (Nat.succ_pos _) hle)) (Nat.add_comm _ _)
    | access x => exact go (of_quiet nofun hqe) (Nat.zero_add _).symm
    | reset => exact go (of_quiet nofun hqe) (Nat.zero_add _).symm

end CountedDown

/-- Settles O23: `CountedDown.of_quietRun`, read before the last count and at it. -/
theorem timeToExpiry : Obligations.TimeToExpiry := by
  intro es s hs hpos hq t
  refine ⟨fun hlt => ?_, fun heq => ?_⟩
  · obtain ⟨hst, hr, htp⟩ : CountedDown (tickCount es) s t := .of_quietRun hs hq hlt.le
    have hpos' : 0 < t.countdownRemaining.toNat := by omega
    refine ⟨by omega, by simp [htp, hlt.ne], ?_⟩
    simp [counterActive, hst, hs, hpos']
  · obtain ⟨-, hr, htp⟩ : CountedDown (tickCount es) s t := .of_quietRun hs hq heq.le
    exact ⟨BitVec.eq_of_toNat_eq (show t.countdownRemaining.toNat = 0 by omega), by simp [htp, heq, hpos]⟩

/-! ## From START to the interrupt (R123, R211) -/

theorem step_of_inputs_nil {s : State} (h : s.inputs = []) : step s = .next (idleCycle s) := by
  have e : takeInput s = s := by rw [takeInput, h, List.tail_nil, ← h]; rfl
  have hd : decodeInput (nextInput s) = .ok .idle := by simp only [nextInput, h]; rfl
  rw [step_of_decodeInput_ok hd, e]
  rfl

/-- With a silent host a running counter counts once a cycle; `enabled` and the reload value stay. -/
theorem run_of_inputs_nil (k : Nat) {s : State} (hin : s.inputs = []) (hs : s.started = true)
    (hle : k ≤ s.countdownRemaining.toNat) : ∃ t : State, Host.Core.run core k s = .next t ∧ t.enabled = s.enabled ∧
      t.countdownConfigured = s.countdownConfigured ∧ CountedDown k s t := by
  induction k generalizing s with
  | zero => exact ⟨s, rfl, rfl, rfl, .zero rfl rfl rfl⟩
  | succ k ih =>
    have h : CountedDown 1 s (idleCycle s) :=
      have h := CountedDown.of_tick hs (Nat.lt_of_lt_of_le (Nat.succ_pos k) hle)
      ⟨h.started, h.remaining, h.timeout⟩
    have hr := h.remaining
    obtain ⟨t, hrun, hen, hcfg, ht⟩ := ih (s := idleCycle s) ((tick_inputs s).trans hin) (h.started.trans hs) (by omega)
    exact ⟨t, (run_succ k s _ (step_of_inputs_nil hin)).trans hrun, hen.trans (tick_enabled s),
      hcfg.trans (tick_configured s), Nat.add_comm 1 k ▸ h.trans ht⟩

/-- The cycle of an effective START, at every width (R82, R120). -/
theorem exec_start {i : Instr} {s : State}
    (hi : ∃ (b : Byte) (h : Half) (w : Word), i = .wrBStart b ∨ i = .wrHStart h ∨ i = .wrWStart w)
    (hc : s.countdownConfigured ≠ 0#32) : exec i s = .next { tick s with
      enabled := true, started := true, countdownRemaining := s.countdownConfigured, rdata := 0#32 } := by
  have hn : ¬ s.countdownConfigured.toNat = 0 := mt (BitVec.eq_of_toNat_eq (y := 0#32)) hc
  obtain ⟨byte, half, word⟩ := startWriteResult
  obtain ⟨b, h, w, rfl | rfl | rfl⟩ := hi
  · exact (byte b s).trans (congrArg Host.Outcome.next (if_neg hn))
  · exact (half h s).trans (congrArg Host.Outcome.next (if_neg hn))
  · exact (word w s).trans (congrArg Host.Outcome.next (if_neg hn))

/-- The step that takes an effective START as the last input waiting: running on the reload value, the flag as the step's
own tick left it. -/
theorem step_of_start {i : Instr} {s : State}
    (hi : ∃ (b : Byte) (h : Half) (w : Word), i = .wrBStart b ∨ i = .wrHStart h ∨ i = .wrWStart w)
    (hin : s.inputs = [encode i]) (hc : s.countdownConfigured ≠ 0#32) : ∃ u : State, step s = .next u ∧
      u.inputs = [] ∧ u.enabled = true ∧ u.started = true ∧ u.countdownConfigured = s.countdownConfigured ∧
      u.countdownRemaining = s.countdownConfigured ∧ u.timeoutPending = (tick s).timeoutPending := by
  have hwf : i.WellFormed := by obtain ⟨b, h, w, rfl | rfl | rfl⟩ := hi <;> rfl
  have hd : decodeInput (nextInput s) = .ok i := by
    simp only [nextInput, hin]
    exact decodeInput_encode hwf
  refine ⟨_, (step_of_decodeInput_ok hd).trans (exec_start hi hc), ?_, rfl, rfl, tick_configured (takeInput s), rfl, ?_⟩
  · simp [hin]
  · exact (tick_timeoutPending (takeInput s)).trans (tick_timeoutPending s).symm

/-- Settles O24: the START's step, then `run_of_inputs_nil` from the reload value. -/
theorem startToInterrupt : Obligations.StartToInterrupt := by
  intro i s hi hin hpos k hk
  have hc : s.countdownConfigured ≠ 0#32 := fun h => by simp [h] at hpos
  obtain ⟨u, hstep, huin, huen, hust, hucfg, hurem, hutp⟩ := step_of_start hi hin hc
  obtain ⟨t, hrun, hen, hcfg, hst, hr, htp⟩ := run_of_inputs_nil k huin hust (hurem ▸ hk)
  rw [hurem] at hr htp
  refine ⟨t, (run_succ k s u hstep).trans hrun, hen.trans huen, hst.trans hust, hcfg.trans hucfg, by omega, ?_⟩
  have hlast : (0 < k ∧ k = s.countdownConfigured.toNat) ↔ k = s.countdownConfigured.toNat :=
    and_iff_right_of_imp fun h => h ▸ hpos
  simp only [irq, htp, hutp, hlast]

/-! ## Accesses in the expiry cycle (R123, R168) -/

theorem tick_of_one {s : State} (hs : s.started = true) (h1 : s.countdownRemaining = 1#32) :
    tick s = { s with countdownRemaining := 0#32, timeoutPending := true } := by
  obtain ⟨-, -, h, -⟩ | ⟨-, -, e⟩ | ⟨-, h, -⟩ | ⟨h, -⟩ := tick_cases s
  · exact absurd h1 h
  · exact e
  · simp [h1] at h
  · simp [hs] at h

/-- Settles O46: the expiring tick, and on the state it leaves the write of each register (O25, O26, O28). -/
theorem accessInTheExpiryCycle : Obligations.AccessInTheExpiryCycle := by
  intro s hen hs h1
  have ht := tick_of_one hs h1
  refine ⟨fun i hi => ?_, fun i hi => ?_, fun b h w i hi hc => ?_⟩
  · obtain ⟨-, half, word⟩ := tapWriteResult
    obtain rfl | rfl : i = .wrHTap 0xABCD#16 ∨ i = .wrWTap 0xABCD#32 := by simpa using hi
    · rw [half, if_pos ⟨hen, hs, rfl⟩, ht]
    · rw [word, if_pos ⟨hen, hs, rfl⟩, ht]
  · obtain ⟨byte, half, word⟩ := enableWriteResult
    obtain rfl | rfl | rfl : i = .wrBEnable 0#8 ∨ i = .wrHEnable 0#16 ∨ i = .wrWEnable 0#32 := by simpa using hi
    · simp [byte, ht]
    · simp [half, ht]
    · simp [word, ht]
  · have hi' : i = .wrBStart b ∨ i = .wrHStart h ∨ i = .wrWStart w := by simpa using hi
    simp [exec_start ⟨b, h, w, hi'⟩ hc, ht, hen, hs]

end Sys2Proof.Proofs
end

section
/-!
PROOFS. The family of `43_state_machine.md`: `started` implies `enabled` and the reachable STATUS values (R131, R132), the
transition table of the control states (R133), the invariants of every sequence of events (R136), and the properties P1 to
P8 (R137 to R144).
-/

namespace Sys2Proof.Proofs

open Sys2Proof.Machine Sys2Proof.Safety Sys2Proof.Laws

/-! ## `started` implies `enabled` (R131) -/

/-- The writers of `enabled` and `started` act on both together: START sets both, a disable and a reset clear both. -/
theorem CycleEffect.keeps_startedEnabled {i : Instr} {s t : State} (h : CycleEffect i s t) (hs : StartedEnabled s) :
    StartedEnabled t := by
  have htick : StartedEnabled (tick s) := by simpa [StartedEnabled] using hs
  cases h with
  | reset | disable => exact nofun
  | enable | start => exact fun _ => rfl
  | tickOnly | countdown | tap => exact htick

/-- Settles O11: the step runs some instruction, and no instruction's cycle breaks the invariant. -/
theorem stepKeepsStartedEnabled : Obligations.StepKeepsStartedEnabled := by
  intro s t hs hstep
  obtain ⟨i, hi⟩ := step_is_exec (nextInput s)
  have hexec : exec i (takeInput s) = .next t := (hi s rfl).symm.trans hstep
  exact (cycleEffect_of_exec hexec).keeps_startedEnabled hs

/-- Settles O12: `started` is false in the reset state. -/
theorem resetSatisfiesStartedEnabled : Obligations.ResetSatisfiesStartedEnabled :=
  fun _ => nofun

theorem startedEnabled_of_reachable {s : State} (h : Reachable s) : StartedEnabled s := by
  induction h with
  | reset script => exact resetSatisfiesStartedEnabled script
  | step _ hstep ih => exact stepKeepsStartedEnabled _ _ ih hstep

/-! ## The reachable STATUS values (R132) -/

/-- With `started` only if `enabled`, and `counter_active` only if `started`, eight of the sixteen packings are left. -/
theorem statusWord_mem_of_startedEnabled {s : State} (h : StartedEnabled s) :
    statusWord s ∈ [0#32, 1#32, 3#32, 4#32, 5#32, 7#32, 11#32, 15#32] := by
  have hact : counterActive s = true → s.started = true := fun ha => ((counterActive_iff s).mp ha).1
  simp only [StartedEnabled, statusWord] at h ⊢
  generalize s.enabled = en, s.started = st, s.timeoutPending = tp, counterActive s = act at h hact
  revert en st tp act
  decide

theorem reachable_of_run {k : Nat} {s t : State} (hs : Reachable s) (h : Host.Core.run core k s = .next t) :
    Reachable t := by
  induction k generalizing s with
  | zero => cases h; exact hs
  | succ k ih =>
    have hstep := stepIsOneCycle s
    exact ih (hs.step hstep) ((run_succ k s _ hstep).symm.trans h)

/-- A host that visits every STATUS value: a count of 1 runs out, is started again, and disabled with the fault pending;
at the end a tap reloads 0 (R114). -/
def statusTour : List CycleInput :=
  [encode (.wrWCountdown 1#32), encode (.wrBEnable 1#8), encode (.wrBStart 1#8), encode .idle, encode (.wrBStart 1#8),
    encode (.wrBEnable 0#8), encode (.wrBEnable 1#8), encode (.wrBStart 1#8), encode (.wrHTap 0xABCD#16),
    encode (.wrWCountdown 0#32), encode (.wrHTap 0xABCD#16)]

/-- The eight values, each after so many cycles of the tour. -/
theorem statusTour_visits : ∀ v ∈ [0#32, 1#32, 3#32, 4#32, 5#32, 7#32, 11#32, 15#32], ∃ k t,
    Host.Core.run core k { State.reset with inputs := statusTour } = .next t ∧ statusWord t = v := by
  simp only [List.forall_mem_cons]
  exact ⟨⟨0, _, rfl, by decide⟩, ⟨2, _, rfl, by decide⟩, ⟨11, _, rfl, by decide⟩, ⟨6, _, rfl, by decide⟩,
    ⟨7, _, rfl, by decide⟩, ⟨4, _, rfl, by decide⟩, ⟨3, _, rfl, by decide⟩, ⟨5, _, rfl, by decide⟩, nofun⟩

/-- Settles O13: the invariant leaves no other value, and `statusTour` visits each of the eight. -/
theorem reachableStatusValues : Obligations.ReachableStatusValues := by
  refine ⟨fun s => startedEnabled_of_reachable, fun v => ⟨?_, fun hv => ?_⟩⟩
  · rintro ⟨s, hs, rfl⟩
    exact statusWord_mem_of_startedEnabled (startedEnabled_of_reachable hs)
  · obtain ⟨k, t, hrun, ht⟩ := statusTour_visits v hv
    exact ⟨t, reachable_of_run (.reset statusTour) hrun, ht⟩

/-! ## The count under a tick (P3, R139) -/

theorem tickWith_remaining (z : Bool) (s : State) : (tickWith z s).countdownRemaining =
    if counterActive s = true then s.countdownRemaining - 1#32 else s.countdownRemaining := by
  obtain ⟨hs, h0, -, e⟩ | ⟨hs, h1, e⟩ | ⟨-, h0, e⟩ | ⟨hs, e⟩ := tickWith_cases z s
  · simp [e, (counterActive_iff s).mpr ⟨hs, h0⟩]
  · simp [e, counterActive, hs, h1]
  · simp [e, counterActive, h0]
  · simp [e, counterActive, hs]

/-- Settles O17: an active counter is above 0, so the decrement of `tickWith_remaining` does not borrow. -/
theorem tickDecrementsByOne : Obligations.TickDecrementsByOne := by
  intro s
  have with_param (z : Bool) :
      (counterActive s = true → (tickWith z s).countdownRemaining.toNat + 1 = s.countdownRemaining.toNat) ∧
      (counterActive s = false → (tickWith z s).countdownRemaining = s.countdownRemaining) := by
    rw [tickWith_remaining]
    refine ⟨fun ha => ?_, fun ha => by simp [ha]⟩
    rw [if_pos ha]
    exact toNat_sub_one ((counterActive_iff s).mp ha).2
  exact ⟨with_param, with_param Config.zeroReloadExpires⟩

/-! ## Register writes as events (R124) -/

section

variable (w : Width) (v : Word) {s : State}

theorem apply_wr_enable : (wr 0#6 w v).apply s = { s with
    enabled := decide (v ≠ 0#32), started := s.started && decide (v ≠ 0#32), rdata := 0#32 } := by
  show (writeEnable v s).setRdata 0#32 = _
  obtain ⟨hv, e⟩ | ⟨hv, e⟩ := writeEnable_cases v s <;> rw [e] <;> simp [hv, State.setRdata]

theorem apply_wr_start (hc : s.countdownConfigured ≠ 0#32) : (wr 1#6 w v).apply s = { s with
    enabled := true, started := true, countdownRemaining := s.countdownConfigured, rdata := 0#32 } := by
  show (writeStart v s).setRdata 0#32 = _
  obtain ⟨-, e⟩ | ⟨h, -⟩ := writeStart_cases v s
  · rw [e]; rfl
  · exact absurd h hc

theorem apply_wr_start_of_zero (hc : s.countdownConfigured = 0#32) :
    (wr 1#6 w v).apply s = { s with rdata := 0#32 } := by
  show (writeStart v s).setRdata 0#32 = _
  obtain ⟨h, -⟩ | ⟨-, e⟩ := writeStart_cases v s
  · exact absurd hc h
  · rw [e]; rfl

theorem apply_wr_tap (he : s.enabled = true) (hs : s.started = true) : (wr 3#6 w 0xABCD#32).apply s =
    { s with countdownRemaining := s.countdownConfigured, timeoutPending := false, rdata := 0#32 } := by
  show (writeTap 0xABCD#32 s).setRdata 0#32 = _
  obtain ⟨-, -, -, e⟩ | ⟨h, -⟩ := writeTap_cases 0xABCD#32 s
  · rw [e]; rfl
  · exact absurd ⟨he, hs, rfl⟩ h

theorem apply_wr_tap_of_not_valid (h : ¬ (s.enabled = true ∧ s.started = true ∧ v = 0xABCD#32)) :
    (wr 3#6 w v).apply s = { s with rdata := 0#32 } := by
  show (writeTap v s).setRdata 0#32 = _
  obtain ⟨he, hs, hv, -⟩ | ⟨-, e⟩ := writeTap_cases v s
  · exact absurd ⟨he, hs, hv⟩ h
  · rw [e]; rfl

end

/-! ## P2, P5, P6, P7 (R138, R141, R142, R143) -/

/-- Settles O30: the write as an event, and in its cycle by `exec_start`, where the tick keeps the reload value. -/
theorem reloadOnStart : Obligations.ReloadOnStart := by
  intro w v s hc
  refine ⟨by rw [apply_wr_start w v hc], fun b h x i hi => ?_⟩
  have hstart : i = .wrBStart b ∨ i = .wrHStart h ∨ i = .wrWStart x := by simpa using hi
  exact ⟨_, exec_start ⟨b, h, x, hstart⟩ hc, (tick_configured s).symm⟩

/-- Settles O34: the valid tap as an event. -/
theorem tapClearsAndReloads : Obligations.TapClearsAndReloads := by
  intro w s _ he hs
  rw [apply_wr_tap w he hs]
  exact ⟨rfl, rfl⟩

/-- Settles O35: each of the three conditions makes the tap not valid. -/
theorem tapNoOpConditions : Obligations.TapNoOpConditions := by
  intro w v s h
  refine ⟨0#32, apply_wr_tap_of_not_valid w v ?_⟩
  rintro ⟨he, hs, hv⟩
  obtain h | h | h := h
  · exact h hv
  · simp [he] at h
  · simp [hs] at h

/-- Settles O36: the disabling write as an event. -/
theorem disableKeepsFault : Obligations.DisableKeepsFault := by
  intro w s htp
  rw [apply_wr_enable]
  exact ⟨htp, htp, rfl, Bool.and_false _⟩

/-! ## STATUS bit by bit (P8, R144) -/

theorem statusWord_getLsbD (s : State) (k : Nat) : (statusWord s).getLsbD k =
    if k = 0 then s.enabled else if k = 1 then s.started else if k = 2 then s.timeoutPending
    else if k = 3 then counterActive s else false := by
  simp only [statusWord]
  generalize s.enabled = en, s.started = st, s.timeoutPending = tp, counterActive s = act
  match k with
  | 0 | 1 | 2 | 3 => revert en st tp act; decide
  | n + 4 => simp [zext32, BitVec.getLsbD_of_ge]

/-- Settles O37: the bits by `statusWord_getLsbD`, the cycle of each read by `readStatus_cycle`. -/
theorem statusBitFidelity : Obligations.StatusBitFidelity := by
  refine ⟨fun w s k => ?_, fun w s i hi => ?_⟩
  · exact (congrArg (BitVec.getLsbD · k) (readStatus_eq w s)).trans (statusWord_getLsbD s k)
  · have hdata : statusWord (tick s) = regRead 4 w (tick s) := (readStatus_eq w (tick s)).symm
    obtain rfl | rfl | rfl : i = .rdBStatus ∨ i = .rdHStatus ∨ i = .rdWStatus := by simpa using hi
    · exact ⟨_, congrArg Host.Outcome.next (readStatus_cycle .byte s), hdata⟩
    · exact ⟨_, congrArg Host.Outcome.next (readStatus_cycle .half s), hdata⟩
    · exact ⟨_, congrArg Host.Outcome.next (readStatus_cycle .word s), hdata⟩

/-! ## Without a configured count (P1, R136 case f, R137) -/

/-- Not running, nothing counted, no fault: what a reset leaves, and what stays as long as no count is configured. -/
structure Dormant (s : State) : Prop where
  started : s.started = false
  remaining : s.countdownRemaining = 0#32
  timeout : s.timeoutPending = false

/-- With no count configured START has no effect, and without `started` neither a tick nor a tap has. -/
theorem Dormant.apply {s : State} (h : Dormant s) (hc : s.countdownConfigured = 0#32) (e : Event) :
    Dormant (e.apply s) := by
  cases e with
  | tick =>
    show Dormant (tick s)
    rwa [tick_of_not_started h.started]
  | reset => exact ⟨rfl, rfl, rfl⟩
  | access x =>
    show Dormant (access x s)
    obtain ⟨-, d, e⟩ | ⟨-, -, -, e⟩ | ⟨-, -, -, e⟩ | ⟨-, -, hc', -⟩ | ⟨-, -, -, e⟩ | ⟨-, -, e⟩ |
      ⟨-, -, -, hst, -⟩ | ⟨-, -, -, e⟩ | ⟨-, -, e⟩ := access_cases x s
    case inr.inr.inl => rw [e]; exact ⟨rfl, h.remaining, h.timeout⟩
    case inr.inr.inr.inl => exact absurd hc hc'
    case inr.inr.inr.inr.inr.inr.inl => simp [h.started] at hst
    all_goals rw [e]; exact ⟨h.started, h.remaining, h.timeout⟩

theorem Dormant.run {es : List Event} {s : State} (h : Dormant s) (hn : neverConfigured es s = true) :
    Dormant (runEvents es s) ∧ (runEvents es s).countdownConfigured = 0#32 := by
  induction es generalizing s with
  | nil => exact ⟨h, beq_iff_eq.mp hn⟩
  | cons e es ih =>
    obtain ⟨hc, hes⟩ : s.countdownConfigured = 0#32 ∧ neverConfigured es (e.apply s) = true := by
      simpa [neverConfigured] using hn
    exact ih (h.apply hc e) hes

theorem dormant_resetAll (s : State) : Dormant (resetAll s) := ⟨rfl, rfl, rfl⟩

/-- Settles O31: `Dormant` through the run, and through one START more. -/
theorem noSpuriousStart : Obligations.NoSpuriousStart := by
  intro s es hn
  obtain ⟨h, hc⟩ := (dormant_resetAll s).run hn
  exact ⟨h.started, fun w v => (h.apply hc (wr 1#6 w v)).started⟩

/-- Settles O32: the other two fields of `Dormant`. -/
theorem noConfigNoCount : Obligations.NoConfigNoCount := by
  intro s es hn
  obtain ⟨h, -⟩ := (dormant_resetAll s).run hn
  exact ⟨h.remaining, h.timeout⟩

/-! ## The fault flag (P4, R134, R136 case e, R140) -/

/-- The next tick sets the fault: it takes the count from 1 to 0, or runs in the zero-reload state with the parameter. -/
def Expires (s : State) : Prop :=
  s.started = true ∧ (s.countdownRemaining = 1#32 ∨ (zeroReload s = true ∧ Config.zeroReloadExpires = true))

theorem tick_timeoutPending_iff (s : State) :
    (tick s).timeoutPending = true ↔ s.timeoutPending = true ∨ Expires s := by
  have hz : zeroReload s = true → s.started = true := fun h => ((zeroReload_iff s).mp h).1
  rw [tick_timeoutPending]
  simp only [Expires, Bool.or_eq_true, Bool.and_eq_true, beq_iff_eq]
  tauto

/-- Of the register writes exactly the valid tap clears (R86, R166). -/
theorem clears_write_iff {x : Txn} (hop : x.op = .write) (s : State) : (Event.access x).clears s = true ↔
    x.addr.toNat = 3 ∧ s.enabled = true ∧ s.started = true ∧ x.value = 0xABCD#32 := by
  simp [Event.clears, Event.writes, Event.value, hop, validTap_iff]

/-- The flag after any event: it was set and is not cleared, or the event is the expiring tick (R134). -/
theorem apply_timeoutPending_iff (e : Event) (s : State) : (e.apply s).timeoutPending = true ↔
    (s.timeoutPending = true ∧ e.clears s = false) ∨ (e = .tick ∧ Expires s) := by
  cases e with
  | tick => simp [Event.apply, tick_timeoutPending_iff, Event.clears, Event.writes]
  | reset => simp [Event.apply, resetAll_eq, State.reset, Event.clears]
  | access x =>
    show (access x s).timeoutPending = true ↔ _
    cases hop : x.op with
    | read =>
      obtain ⟨d, e⟩ := access_read_eq x s hop
      simp [e, Event.clears, Event.writes, hop]
    | write =>
      obtain ⟨-, -, -, -, htp⟩ := access_write_fields x s hop
      have hclear := clears_write_iff hop s
      split at htp
      next h => simp [htp, hclear.mpr h]
      next h => simp [htp, Bool.eq_false_iff.mpr (mt hclear.mp h)]

theorem stickyRun_keeps_timeout {es : List Event} {s : State} (htp : s.timeoutPending = true)
    (h : stickyRun es s = true) : (runEvents es s).timeoutPending = true := by
  induction es generalizing s with
  | nil => exact htp
  | cons e es ih =>
    obtain ⟨hclear, hes⟩ : e.clears s = false ∧ stickyRun es (e.apply s) = true := by simpa [stickyRun] using h
    exact ih ((apply_timeoutPending_iff e s).mpr (.inl ⟨htp, hclear⟩)) hes

/-- Settles O33: a decrement that ends at 0 begins at 1, where the tick expires; `stickyRun_keeps_timeout` after it. -/
theorem expiryAssertsInterrupt : Obligations.ExpiryAssertsInterrupt := by
  refine ⟨fun s hs h0 ht => ?_, fun es s htp hrun => ?_⟩
  · have hr : (tick s).countdownRemaining = s.countdownRemaining - 1#32 :=
      (tickWith_remaining _ s).trans (if_pos ((counterActive_iff s).mpr ⟨hs, h0⟩))
    have h1 : s.countdownRemaining = 1#32 := sub_one_eq_zero.mp (hr.symm.trans ht)
    exact (tick_timeoutPending_iff s).mpr (.inr ⟨hs, .inl h1⟩)
  · have h := stickyRun_keeps_timeout htp hrun
    exact ⟨h, h⟩

/-- Where a flag that is set at the end of a run comes from: it was set at the start and no event cleared it, or the run
splits at a tick that expires, with no clearing event after it. -/
theorem timeoutPending_origin (es : List Event) (s : State) (h : (runEvents es s).timeoutPending = true) :
    (s.timeoutPending = true ∧ stickyRun es s = true) ∨
    ∃ before after, es = before ++ .tick :: after ∧ Expires (runEvents before s) ∧
      stickyRun after (tick (runEvents before s)) = true := by
  induction es generalizing s with
  | nil => exact .inl ⟨h, rfl⟩
  | cons e es ih =>
    obtain ⟨htp, hrun⟩ | ⟨before, after, rfl, hexp, hrun⟩ := ih (e.apply s) h
    · obtain ⟨htp, hclear⟩ | ⟨rfl, hexp⟩ := (apply_timeoutPending_iff e s).mp htp
      · exact .inl ⟨htp, by simp [stickyRun, hclear, hrun]⟩
      · exact .inr ⟨[], es, rfl, hexp, hrun⟩
    · exact .inr ⟨e :: before, after, rfl, hexp, hrun⟩

/-- Settles O45: a reset leaves the flag false, so of `timeoutPending_origin` only the split is left. -/
theorem pendingHasAnExpiry : Obligations.PendingHasAnExpiry := by
  intro es s h
  obtain ⟨htp, -⟩ | ⟨before, after, hes, ⟨hs, hexp⟩, hrun⟩ := timeoutPending_origin es (resetAll s) h
  · cases htp
  · exact ⟨before, after, hes, hs, hexp, hrun⟩

/-! ## The moves of the counter (R136 case d) -/

/-- Settles O44: the tick by `tick_remaining_of_ne`, an access by its row of the writer table. -/
theorem primitiveCounterMoves : Obligations.PrimitiveCounterMoves := by
  intro e s
  cases e with
  | tick =>
    by_cases h : (tick s).countdownRemaining = s.countdownRemaining
    · exact .inl h
    · exact .inr (.inl ⟨rfl, tick_remaining_of_ne h⟩)
  | reset => exact .inr (.inr (.inr ⟨rfl, rfl⟩))
  | access x =>
    cases hop : x.op with
    | read =>
      obtain ⟨d, e⟩ := access_read_eq x s hop
      have hr : (access x s).countdownRemaining = s.countdownRemaining := by rw [e]
      exact .inl hr
    | write =>
      obtain ⟨-, -, -, hr, -⟩ := access_write_fields x s hop
      split at hr
      next hw =>
        refine .inr (.inr (.inl ⟨?_, hr⟩))
        simpa [Event.writes, Event.value, hop, validTap_iff] using hw
      next => exact .inl hr

/-! ## The transition table (R133) -/

/-- The table of R130: what each control state says of the three fields it is read from. -/
theorem controlState_cases {s : State} {c : ControlState} (h : controlState s = some c) :
    (c = .off ∧ s.enabled = false ∧ s.started = false) ∨
    (c = .armed ∧ s.enabled = true ∧ s.started = false) ∨
    (c = .running ∧ s.enabled = true ∧ s.started = true ∧ s.countdownRemaining ≠ 0#32) ∨
    (c = .expired ∧ s.enabled = true ∧ s.started = true ∧ s.countdownRemaining = 0#32) := by
  simp only [controlState] at h
  split at h
  next he hs => cases h; exact .inl ⟨rfl, he, hs⟩
  next he hs => cases h; exact .inr (.inl ⟨rfl, he, hs⟩)
  next he hs =>
    split at h
    next h0 => cases h; exact .inr (.inr (.inr ⟨rfl, he, hs, h0⟩))
    next h0 => cases h; exact .inr (.inr (.inl ⟨rfl, he, hs, h0⟩))
  next => cases h

section

variable {s : State} {c : ControlState} (h : controlState s = some c) (w : Width) (v : Word)
include h

/-- The column `WR ENABLE`. -/
theorem controlState_wr_enable : controlState ((wr 0#6 w v).apply s) =
    some (if v = 0#32 then .off else if c = .off then .armed else c) := by
  rw [apply_wr_enable]
  by_cases hv : v = 0#32
  · simp [controlState, hv]
  · obtain ⟨rfl, -, hs⟩ | ⟨rfl, -, hs⟩ | ⟨rfl, -, hs, h0⟩ | ⟨rfl, -, hs, h0⟩ := controlState_cases h
    · simp [controlState, hv, hs]
    · simp [controlState, hv, hs]
    · simp [controlState, hv, hs, h0]
    · simp [controlState, hv, hs, h0]

/-- The columns `WR START`, with what they do to the count. -/
theorem transition_wr_start :
    controlState ((wr 1#6 w v).apply s) = some (if s.countdownConfigured = 0#32 then c else .running) ∧
    ((wr 1#6 w v).apply s).countdownRemaining =
      (if s.countdownConfigured = 0#32 then s.countdownRemaining else s.countdownConfigured) ∧
    ((wr 1#6 w v).apply s).timeoutPending = s.timeoutPending := by
  by_cases hc : s.countdownConfigured = 0#32
  · rw [apply_wr_start_of_zero w v hc, if_pos hc, if_pos hc]
    exact ⟨h, rfl, rfl⟩
  · rw [apply_wr_start w v hc, if_neg hc, if_neg hc]
    exact ⟨by simp [controlState, hc], rfl, rfl⟩

/-- The column `WR TAP`: no effect in OFF and ARMED, else a reload. -/
theorem transition_wr_tap :
    controlState ((wr 3#6 w 0xABCD#32).apply s) = some (if c = .off ∨ c = .armed then c
      else if s.countdownConfigured = 0#32 then .expired else .running) ∧
    ((wr 3#6 w 0xABCD#32).apply s).countdownRemaining =
      (if c = .off ∨ c = .armed then s.countdownRemaining else s.countdownConfigured) ∧
    ((wr 3#6 w 0xABCD#32).apply s).timeoutPending = (if c = .off ∨ c = .armed then s.timeoutPending else false) := by
  have no_op (hs : s.started = false) : (wr 3#6 w 0xABCD#32).apply s = { s with rdata := 0#32 } :=
    apply_wr_tap_of_not_valid w _ (by simp [hs])
  obtain ⟨rfl, -, hs⟩ | ⟨rfl, -, hs⟩ | ⟨rfl, he, hs, -⟩ | ⟨rfl, he, hs, -⟩ := controlState_cases h
  · rw [no_op hs]
    exact ⟨h, rfl, rfl⟩
  · rw [no_op hs]
    exact ⟨h, rfl, rfl⟩
  · simp [apply_wr_tap w he hs, controlState, he, hs]
  · simp [apply_wr_tap w he hs, controlState, he, hs]

theorem counterActive_iff_running : counterActive s = true ↔ c = .running := by
  obtain ⟨rfl, -, hs⟩ | ⟨rfl, -, hs⟩ | ⟨rfl, -, hs, h0⟩ | ⟨rfl, -, hs, h0⟩ := controlState_cases h
  · simp [counterActive_iff, hs]
  · simp [counterActive_iff, hs]
  · simp [counterActive_iff, hs, h0]
  · simp [counterActive_iff, hs, h0]

/-- The column `Tick`. -/
theorem transition_tick :
    controlState (tick s) = some (if c = .running ∧ s.countdownRemaining = 1#32 then .expired else c) ∧
    (tick s).countdownRemaining = (if c = .running then s.countdownRemaining - 1#32 else s.countdownRemaining) ∧
    (tick s).timeoutPending = (s.timeoutPending || (decide (c = .running) && s.countdownRemaining == 1#32) ||
      (decide (c = .expired) && Config.zeroReloadExpires)) := by
  have hr : (tick s).countdownRemaining =
      if c = .running then s.countdownRemaining - 1#32 else s.countdownRemaining := by
    simp only [← counterActive_iff_running h]
    exact tickWith_remaining _ s
  rw [tick_timeoutPending]
  obtain ⟨rfl, he, hs⟩ | ⟨rfl, he, hs⟩ | ⟨rfl, he, hs, h0⟩ | ⟨rfl, he, hs, h0⟩ := controlState_cases h
  · exact ⟨by simp [controlState, he, hs], hr, by simp [zeroReload, hs]⟩
  · exact ⟨by simp [controlState, he, hs], hr, by simp [zeroReload, hs]⟩
  · exact ⟨by simp [controlState, he, hs, hr, sub_one_eq_zero], hr, by simp [zeroReload, hs, h0]⟩
  · refine ⟨by simp [controlState, he, hs, hr, h0], hr, ?_⟩
    cases htp : s.timeoutPending <;> simp [zeroReload, hs, h0, htp]

end

/-- An access outside the columns of R133 writes at most the reload value. -/
theorem access_outside_table {x : Txn}
    (hx : x.op = .read ∨ x.addr.toNat = 2 ∨ 4 ≤ x.addr.toNat ∨ (x.addr.toNat = 3 ∧ x.value ≠ 0xABCD#32)) (s : State) :
    ∃ cfg d, access x s = { s with countdownConfigured := cfg, rdata := d } := by
  obtain ⟨-, d, e⟩ | ⟨ho, ha, -⟩ | ⟨ho, ha, -⟩ | ⟨ho, ha, -⟩ | ⟨ho, ha, -⟩ | ⟨-, -, e⟩ | ⟨ho, ha, -, -, hv, -⟩ |
    ⟨-, -, -, e⟩ | ⟨-, -, e⟩ := access_cases x s
  case inr.inl | inr.inr.inl | inr.inr.inr.inl | inr.inr.inr.inr.inl => simp [ho, ha] at hx
  case inr.inr.inr.inr.inr.inr.inl => simp [ho, ha, hv] at hx
  all_goals exact ⟨_, _, e⟩

/-- Settles O48: the table's columns, and the operations outside it, which leave the three fields alone. -/
theorem transitionTable : Obligations.TransitionTable := by
  intro s c w v h
  refine ⟨⟨controlState_wr_enable h w v, ?_, ?_⟩, transition_wr_start h w v, fun _ => transition_wr_tap h w,
    transition_tick h, ⟨rfl, rfl, rfl, rfl⟩, fun x hx => ?_⟩
  · rw [apply_wr_enable]
  · rw [apply_wr_enable]
  · obtain ⟨cfg, d, e⟩ := access_outside_table hx s
    rw [e]
    exact ⟨h, rfl, rfl⟩

end Sys2Proof.Proofs
end

section
/-!
PROOFS. The family of `60_exceptions.md`: what sets and what clears the fault (R165 to R167), and how a fault is cleared
after a disable (R173).
-/

namespace Sys2Proof.Proofs

open Sys2Proof.Machine Sys2Proof.Safety Sys2Proof.Laws

/-! ## What sets and what clears the fault, per cycle (R134, R165 to R167) -/

/-- Settles O42: the column of `timeout_pending`, its setting half for a rising line, its clearing half for a falling one. -/
theorem pendingSetAndCleared : Obligations.PendingSetAndCleared := by
  intro i s t h
  have writers := (cycleEffect_of_exec h).timeout_writers
  unfold irq
  refine ⟨fun hs ht => ?_, fun hs ht => ?_⟩
  · obtain ⟨-, hset⟩ | ⟨hlow, -⟩ := writers (by simp [hs, ht])
    · exact hset
    · exact absurd (hlow.symm.trans ht) Bool.false_ne_true
  · obtain ⟨hhigh, -⟩ | ⟨-, hclear⟩ := writers (by simp [hs, ht])
    · exact absurd (ht.symm.trans hhigh) Bool.false_ne_true
    · exact hclear

/-! ## A fault in a stopped watchdog (R173) -/

section

variable {s : State}

/-- A property of states that a run loses is lost at one of its events. -/
theorem exists_event_losing {P : State → Prop} {es : List Event} (hP : P s) (hlost : ¬ P (runEvents es s)) :
    ∃ before e after, es = before ++ e :: after ∧ P (runEvents before s) ∧ ¬ P (e.apply (runEvents before s)) := by
  induction es generalizing s with
  | nil => exact absurd hP hlost
  | cons e es ih =>
    by_cases h : P (e.apply s)
    · obtain ⟨before, e', after, rfl, hsplit⟩ := ih h hlost
      exact ⟨e :: before, e', after, rfl, hsplit⟩
    · exact ⟨[], e, es, rfl, hP, h⟩

/-- Only an effective START sets `started` (R82). -/
theorem apply_started_of_not_restarts {e : Event} (hs : s.started = false) (hr : e.restarts s = false) :
    (e.apply s).started = false := by
  cases e with
  | tick => exact (tick_started s).trans hs
  | reset => rfl
  | access x =>
    show (access x s).started = false
    cases hop : x.op with
    | read =>
      obtain ⟨d, e⟩ := access_read_eq x s hop
      rw [e]
      exact hs
    | write =>
      obtain ⟨-, hst, -⟩ := access_write_fields x s hop
      have hno : ¬ (x.addr.toNat = 1 ∧ s.countdownConfigured ≠ 0#32) := by
        simpa [Event.restarts, Event.writes, hop] using hr
      simp [hst, hno, hs]

/-- Without `started` no tap is valid, so a reset alone clears (R86, R166). -/
theorem clears_of_not_started {e : Event} (hs : s.started = false) (he : e ≠ .reset) : e.clears s = false := by
  simp [Event.clears, he, validTap, hs]

/-- As long as nothing restarts the watchdog, every event meets it stopped, and none clears the fault. -/
theorem stickyRun_of_restartFree {es : List Event} (hs : s.started = false) (h : restartFree es s = true) :
    stickyRun es s = true := by
  induction es generalizing s with
  | nil => rfl
  | cons e es ih =>
    obtain ⟨⟨he, hr⟩, hes⟩ : (e ≠ .reset ∧ e.restarts s = false) ∧ restartFree es (e.apply s) = true := by
      simpa [restartFree] using h
    simp [stickyRun, clears_of_not_started hs he, ih (apply_started_of_not_restarts hs hr) hes]

/-- A run that sets `started` has an effective START in it. -/
theorem exists_restart_of_started {es : List Event} (hs : s.started = false) (h : (runEvents es s).started = true) :
    ∃ before start after, es = before ++ start :: after ∧ start.restarts (runEvents before s) = true := by
  obtain ⟨before, start, after, hes, hstopped, hstarted⟩ :=
    exists_event_losing (P := fun u => u.started = false) hs (ne_false_of_eq_true h)
  refine ⟨before, start, after, hes, ?_⟩
  by_contra hr
  exact hstarted (apply_started_of_not_restarts hstopped (Bool.eq_false_iff.mpr hr))

/-- A run that clears the fault has a clearing event in it. -/
theorem exists_clears_of_low {es : List Event} (htp : s.timeoutPending = true) (h : irq (runEvents es s) = false) :
    ∃ before e after, es = before ++ e :: after ∧ e.clears (runEvents before s) = true := by
  obtain ⟨before, e, after, hes, hpending, hlow⟩ :=
    exists_event_losing (P := fun u => u.timeoutPending = true) htp (Bool.eq_false_iff.mp h)
  refine ⟨before, e, after, hes, ?_⟩
  by_contra hclear
  exact hlow ((apply_timeoutPending_iff e _).mpr (.inl ⟨hpending, Bool.eq_false_iff.mpr hclear⟩))

/-- What lowers the line from a stopped state with the fault: a reset, or a valid tap, which finds the watchdog started and
so has an effective START before it. -/
theorem reset_or_start_then_tap_of_low {es : List Event} (hs : s.started = false) (htp : s.timeoutPending = true)
    (hlow : irq (runEvents es s) = false) : Event.reset ∈ es ∨
      ∃ before start mid tap after, es = before ++ start :: (mid ++ tap :: after) ∧
        start.restarts (runEvents before s) = true ∧ tap.writes 3 = true ∧
        validTap tap.value (runEvents (before ++ start :: mid) s) = true := by
  obtain ⟨pre, e, after, rfl, hclear⟩ := exists_clears_of_low htp hlow
  obtain rfl | ⟨hw, hvalid⟩ : e = .reset ∨ (e.writes 3 = true ∧ validTap e.value (runEvents pre s) = true) := by
    simpa [Event.clears] using hclear
  · exact .inl (by simp)
  · obtain ⟨-, hst, -⟩ := (validTap_iff _ _).mp hvalid
    obtain ⟨before, start, mid, rfl, hr⟩ := exists_restart_of_started hs hst
    exact .inr ⟨before, start, mid, e, after, by simp, hr, hw, hvalid⟩

/-- STATUS while enabled and counting: 15 with the fault, 11 without it (R33). -/
theorem statusWord_of_counting (he : s.enabled = true) (ha : counterActive s = true) :
    statusWord s = if s.timeoutPending then 15#32 else 11#32 := by
  have hs : s.started = true := ((counterActive_iff s).mp ha).1
  cases htp : s.timeoutPending <;> simp [statusWord, zext32, he, hs, ha, htp]

end

/-- Settles O47: the sequences by `stickyRun_of_restartFree` and `reset_or_start_then_tap_of_low`, the two examples by
running their writes. -/
theorem clearingAFaultAfterDisable : Obligations.ClearingAFaultAfterDisable := by
  intro s he hs htp
  have stays_high (es : List Event) (h : restartFree es s = true) : irq (runEvents es s) = true :=
    stickyRun_keeps_timeout htp (stickyRun_of_restartFree hs h)
  refine ⟨fun e hne => ?_, stays_high, fun es => reset_or_start_then_tap_of_low hs htp, fun w v hv => ⟨?_, ?_⟩,
    fun w v hc => ?_⟩
  · exact (apply_timeoutPending_iff e s).mpr (.inl ⟨htp, clears_of_not_started hs hne⟩)
  · exact stays_high _ rfl
  · rw [apply_wr_enable]
    simp [statusWord, counterActive, zext32, hs, htp, hv]
  · have counting {u : State} (hst : u.started = true) (hr : u.countdownRemaining = s.countdownConfigured) :
        counterActive u = true := (counterActive_iff u).mpr ⟨hst, hr ▸ hc⟩
    rw [runEvents, runEvents, runEvents, apply_wr_start w v hc, apply_wr_tap .half rfl rfl]
    exact ⟨(statusWord_of_counting rfl (counting rfl rfl)).trans (if_pos htp),
      statusWord_of_counting rfl (counting rfl rfl), rfl⟩

end Sys2Proof.Proofs
end

section
/-!
PROOFS. The family of `70_reset_and_hazards.md`: a cycle in which reset is asserted, and reset held for several (R191).
-/

namespace Sys2Proof.Proofs

open Sys2Proof.Machine Sys2Proof.Laws

/-- A step with reset asserted is at `S0`, whatever the state and the transaction presented (R191, R192). -/
theorem step_of_reset {s : State} {c : CycleInput} {rest : List CycleInput} (hin : s.inputs = c :: rest)
    (hc : c.reset = true) : step s = .next { State.reset with inputs := rest } := by
  have hnext : nextInput s = c := by rw [nextInput, hin]
  have htake : takeInput s = s.setInputs rest := by rw [takeInput, hin, List.tail_cons]
  calc step s = .next (cycle (nextInput s) (takeInput s)) := stepIsOneCycle s
    _ = .next (resetCycle (s.setInputs rest)) := by rw [hnext, htake, cycle, if_pos hc]
    _ = .next { State.reset with inputs := rest } := rfl

/-- From `S0`, a run of cycles with reset asserted in each is still at `S0` (R191). -/
theorem run_of_resetHeld {held : List CycleInput} (rest : List CycleInput) (hr : ∀ c ∈ held, c.reset = true) :
    Host.Core.run core held.length { State.reset with inputs := held ++ rest } =
      .next { State.reset with inputs := rest } := by
  induction held with
  | nil => rfl
  | cons c cs ih =>
    obtain ⟨hc, hcs⟩ := List.forall_mem_cons.mp hr
    exact (run_succ cs.length _ _ (step_of_reset rfl hc)).trans (ih hcs)

/-- Settles O16: the first cycle of reset reaches `S0` by `step_of_reset`, the next `k` hold it by `run_of_resetHeld`. -/
theorem resetHoldsS0 : Obligations.ResetHoldsS0 := by
  intro s held rest hin hr k hk
  cases held with
  | nil => exact absurd hk (Nat.not_lt_zero k)
  | cons c cs =>
    obtain ⟨hc, hcs⟩ := List.forall_mem_cons.mp hr
    have hlen : (cs.take k).length = k := List.length_take_of_le (Nat.le_of_lt_succ hk)
    have hsplit : cs ++ rest = cs.take k ++ (cs.drop k ++ rest) := by rw [← List.append_assoc, List.take_append_drop]
    have hstep : step s = .next { State.reset with inputs := cs.take k ++ (cs.drop k ++ rest) } :=
      hsplit ▸ step_of_reset hin hc
    have hhold := run_of_resetHeld (held := cs.take k) (cs.drop k ++ rest) fun d hd => hcs d (List.mem_of_mem_take hd)
    rw [hlen] at hhold
    exact ⟨_, (run_succ k s _ hstep).trans hhold, rfl, rfl, rfl, rfl, rfl⟩

end Sys2Proof.Proofs
end

section
/-!
PROOFS. The family of `30_encoding.md`, second part: the rows of the opcode table by the fields they fix (R62 to R67), what
the decoder reads from a word and what it drops (R45, R66, R74).
-/

namespace Sys2Proof.Proofs

open Sys2Proof.Machine Sys2Proof.Laws

/-- Settles O1: the tuple of a well-formed instruction survives packing, and selects the instruction again. -/
theorem decodeOfEncode : Obligations.DecodeOfEncode := fun _ hwf => decodeInput_encode hwf

/-! ## The tuple a word unpacks to (R62 to R66) -/

/-- `T[40]` of an operation (R63). -/
def rwBit : Op → BitVec 1
  | .read => 0#1
  | .write => 1#1

/-- The value a word carries for an operation: the operand of a write, 0 on a read (R60, R66). -/
def carriedValue (op : Op) (w : Width) (data : Word) : Word :=
  match op with
  | .read => 0#32
  | .write => operandValue w data

theorem rwBit_inj {op op' : Op} : rwBit op = rwBit op' ↔ op = op' := by
  cases op <;> cases op' <;> decide

theorem code_inj {w w' : Width} : w.code = w'.code ↔ w = w' := by
  cases w <;> cases w' <;> decide

theorem code_ne_reserved (w : Width) : w.code ≠ 0b11#2 := by cases w <;> decide

/-- Every bit is the bit of an operation. -/
theorem exists_rwBit (b : BitVec 1) : ∃ op, b = rwBit op := by
  obtain rfl | rfl := BitVec.eq_zero_or_eq_one b
  · exact ⟨.read, rfl⟩
  · exact ⟨.write, rfl⟩

/-- `unpack` in closed form on a word with a legal width code. -/
theorem unpack_of_fields {t : TxnWord} {op : Op} {w : Width} (hrw : t.rw = rwBit op) (hwc : t.wc = w.code) :
    t.unpack = .ok ⟨op, w, t.addr, carriedValue op w t.data⟩ := by
  cases op <;> simp [TxnWord.unpack, hrw, hwc, rwBit, carriedValue]

theorem unpack_of_reserved {t : TxnWord} (hwc : t.wc = 0b11#2) : t.unpack = .error .reservedWidthCode := by
  simp only [TxnWord.unpack, ofCode_eq_none.mpr hwc]

/-- The fields of a word with a legal width code are codes of an operation and a width. -/
theorem exists_fields {t : TxnWord} (hwc : t.wc ≠ 0b11#2) : ∃ op, ∃ w : Width, t.rw = rwBit op ∧ t.wc = w.code := by
  obtain ⟨w, hw⟩ := Option.ne_none_iff_exists'.mp (mt ofCode_eq_none.mp hwc)
  obtain ⟨op, hop⟩ := exists_rwBit t.rw
  exact ⟨op, w, hop, ofCode_eq_some.mp hw⟩

/-- A word unpacks to a tuple exactly when its fields are the tuple's. -/
theorem unpack_eq_ok_iff {t : TxnWord} {x : Txn} : t.unpack = .ok x ↔
    rwBit x.op = t.rw ∧ x.width.code = t.wc ∧ x.addr = t.addr ∧ x.value = carriedValue x.op x.width t.data := by
  constructor
  · intro h
    by_cases hwc : t.wc = 0b11#2
    · cases (unpack_of_reserved hwc).symm.trans h
    · obtain ⟨op, w, hop, hw⟩ := exists_fields hwc
      cases (unpack_of_fields hop hw).symm.trans h
      exact ⟨hop.symm, hw.symm, rfl, rfl⟩
  · rintro ⟨hrw, hwc, ha, hv⟩
    rw [unpack_of_fields hrw.symm hwc.symm, ← ha, ← hv]

/-! ## What the decoder drops (R45, R63, R66, R70) -/

theorem carriedValue_of_fits {x : Txn} (hx : TxnFits x) : carriedValue x.op x.width x.value = x.value := by
  obtain ⟨op, w, addr, v⟩ := x
  cases op with
  | write => exact hx.1
  | read => exact (hx.2 rfl).symm

/-- The row a tuple selects keeps its operation, width and selector, and of its value what the operation carries. -/
theorem txn_select (x : Txn) : x.select.txn = some { x with value := carriedValue x.op x.width x.value } := by
  obtain ⟨op, w, addr, v⟩ := x
  have hr := inRange_group addr
  simp only [Txn.select]
  generalize Addr.group addr = g at hr ⊢
  cases g
  case enable | start | countdown | tap | status | unmapped5 =>
    obtain rfl := eq_ofNat_of_inRange_self hr
    cases op <;> cases w <;> rfl
  case unmapped6To7 | unmapped8To15 | unmapped16To31 | unmapped32To63 => cases op <;> cases w <;> rfl

/-- Selection tells tuples that fit apart. -/
theorem select_inj {x y : Txn} (hx : TxnFits x) (hy : TxnFits y) (h : x.select = y.select) : x = y := by
  have htxn : x.select.txn = y.select.txn := congrArg Instr.txn h
  rw [txn_select, txn_select, carriedValue_of_fits hx, carriedValue_of_fits hy] at htxn
  exact Option.some.inj htxn

/-- The decoder tells words apart exactly when their tuples differ. -/
theorem decode_eq_decode_iff {t u : TxnWord} : decode t = decode u ↔ t.unpack = u.unpack := by
  refine ⟨fun h => ?_, fun h => by rw [decode, decode, h]⟩
  simp only [decode] at h
  match ht : t.unpack, hu : u.unpack with
  | .error .reservedWidthCode, .error .reservedWidthCode => rfl
  | .error _, .ok _ | .ok _, .error _ => simp [ht, hu, Except.map] at h
  | .ok x, .ok y =>
    have hsel : x.select = y.select := by simpa [ht, hu, Except.map] using h
    exact congrArg Except.ok (select_inj (txnFits_of_unpack ht) (txnFits_of_unpack hu) hsel)

theorem data_getLsbD (t : TxnWord) {w : Width} {k : Nat} (hk : k < w.bits) : t.data.getLsbD k = t.getLsbD k := by
  have h32 : w.bits ≤ 32 := by cases w <;> decide
  simp [TxnWord.data, show k < 32 by omega]

/-- Two operands agree exactly when the data bits below the width do. -/
theorem operandValue_data_eq_iff (w : Width) (t u : TxnWord) :
    operandValue w t.data = operandValue w u.data ↔ ∀ k, k < w.bits → t.getLsbD k = u.getLsbD k := by
  constructor
  · intro h k hk
    have hbit := congrArg (BitVec.getLsbD · k) h
    simpa only [operandValue_getLsbD, hk, decide_true, Bool.true_and, data_getLsbD _ hk] using hbit
  · intro h
    refine BitVec.eq_of_getLsbD_eq fun k _ => ?_
    simp only [operandValue_getLsbD]
    by_cases hk : k < w.bits
    · rw [data_getLsbD t hk, data_getLsbD u hk, h k hk]
    · simp [hk]

/-- What two words carry for one operation agrees exactly when, on a write, the data bits below the width do. -/
theorem carriedValue_data_eq_iff (op : Op) (w : Width) (t u : TxnWord) :
    carriedValue op w t.data = carriedValue op w u.data ↔
      (rwBit op = 1#1 → ∀ k, k < w.bits → t.getLsbD k = u.getLsbD k) := by
  cases op with
  | read => simp [carriedValue, rwBit]
  | write => simp [carriedValue, rwBit, operandValue_data_eq_iff]

/-- Settles O2: the decoder answers alike exactly when the words unpack alike, and so when the fields of the tuple agree. -/
theorem decodeForgetsOnlyIgnoredBits : Obligations.DecodeForgetsOnlyIgnoredBits := by
  intro t u w hw
  have hwc : t.wc = w.code := ofCode_eq_some.mp hw
  obtain ⟨op, hop⟩ := exists_rwBit t.rw
  rw [decode_eq_decode_iff, unpack_of_fields hop hwc, eq_comm, unpack_eq_ok_iff, carriedValue_data_eq_iff, hop, hwc]

/-! ## The rows of the table by the fields they fix (R67) -/

/-- The selector bits that the rows of a group fix. -/
def groupMask : RegGroup → Addr
  | .enable | .start | .countdown | .tap | .status | .unmapped5 => 0b111111#6
  | .unmapped6To7 => 0b111110#6
  | .unmapped8To15 => 0b111000#6
  | .unmapped16To31 => 0b110000#6
  | .unmapped32To63 => 0b100000#6

/-- The first selector of a group, whose bits under the mask all its selectors share. -/
def groupFirst (g : RegGroup) : Addr := BitVec.ofNat 6 (groupBounds g).1

/-- The row of an operation, a width and an address group, its name that of the group's first selector's instruction. -/
def tableRow (op : Op) (w : Width) (g : RegGroup) : TableRow where
  mnemonic := (Txn.select ⟨op, w, groupFirst g, 0#32⟩).mnemonic
  mask := TxnWord.ofFields 1#1 3#2 (groupMask g) 0#32
  pattern := TxnWord.ofFields (rwBit op) w.code (groupFirst g) 0#32

/-- The address groups, in the table's order. -/
def regGroups : List RegGroup :=
  [.enable, .start, .countdown, .tap, .status, .unmapped5, .unmapped6To7, .unmapped8To15, .unmapped16To31,
    .unmapped32To63]

/-- The table is the rows of all operations, groups and widths, in this order. -/
theorem opcodeTable_eq : opcodeTable =
    [Op.write, .read].flatMap fun op => regGroups.flatMap fun g => [Width.byte, .half, .word].map (tableRow op · g) :=
  rfl

theorem mem_opcodeTable {r : TableRow} : r ∈ opcodeTable ↔ ∃ op w g, r = tableRow op w g := by
  have hop (op : Op) : op ∈ [Op.write, .read] := by cases op <;> decide
  have hw (w : Width) : w ∈ [Width.byte, .half, .word] := by cases w <;> decide
  have hg (g : RegGroup) : g ∈ regGroups := by cases g <;> decide
  simp only [opcodeTable_eq, List.mem_flatMap, List.mem_map]
  constructor
  · rintro ⟨op, -, g, -, w, -, rfl⟩
    exact ⟨op, w, g, rfl⟩
  · rintro ⟨op, w, g, rfl⟩
    exact ⟨op, hop op, g, hg g, w, hw w, rfl⟩

theorem ofFields_inj {rw rw' : BitVec 1} {wc wc' : BitVec 2} {addr addr' : Addr} {data data' : Word} :
    TxnWord.ofFields rw wc addr data = TxnWord.ofFields rw' wc' addr' data' ↔
      rw = rw' ∧ wc = wc' ∧ addr = addr' ∧ data = data' := by
  constructor
  · intro h
    exact ⟨by simpa using congrArg TxnWord.rw h, by simpa using congrArg TxnWord.wc h,
      by simpa using congrArg TxnWord.addr h, by simpa using congrArg TxnWord.data h⟩
  · rintro ⟨rfl, rfl, rfl, rfl⟩
    rfl

/-- The selectors of a group are those that agree with its first one under the mask. -/
theorem and_groupMask_eq_iff (a : Addr) (g : RegGroup) : a &&& groupMask g = groupFirst g ↔ Addr.group a = g := by
  revert a
  cases g <;> decide

/-- A word belongs to a row exactly when it has the row's operation and width code and a selector of its group. -/
theorem tableRow_hits_iff {op : Op} {w : Width} {g : RegGroup} {t : TxnWord} :
    (tableRow op w g).hits t = true ↔ t.rw = rwBit op ∧ t.wc = w.code ∧ Addr.group t.addr = g := by
  have hrw : t.rw &&& 1#1 = t.rw := by generalize t.rw = b; revert b; decide
  have hwc : t.wc &&& 3#2 = t.wc := by generalize t.wc = c; revert c; decide
  rw [TableRow.hits, beq_iff_eq]
  conv_lhs => rw [← ofFields_fields t]
  simp only [tableRow, ofFields_and, ofFields_inj, hrw, hwc, and_groupMask_eq_iff, BitVec.and_zero, and_true]

/-- No word belongs to two rows. -/
theorem hits_unique {t : TxnWord} {r r' : TableRow} (hr : r ∈ opcodeTable) (hr' : r' ∈ opcodeTable)
    (h : r.hits t = true) (h' : r'.hits t = true) : r = r' := by
  obtain ⟨op, w, g, rfl⟩ := mem_opcodeTable.mp hr
  obtain ⟨op', w', g', rfl⟩ := mem_opcodeTable.mp hr'
  obtain ⟨hop, hw, hg⟩ := tableRow_hits_iff.mp h
  obtain ⟨hop', hw', hg'⟩ := tableRow_hits_iff.mp h'
  obtain rfl := rwBit_inj.mp (hop.symm.trans hop')
  obtain rfl := code_inj.mp (hw.symm.trans hw')
  rw [← hg, ← hg']

/-- No two rows of the table share a name. -/
theorem mnemonics_nodup : (opcodeTable.map TableRow.mnemonic).Nodup := by decide

/-- The name of the row a tuple selects depends on its operation, width and address group only. -/
theorem select_mnemonic (x : Txn) : x.select.mnemonic = (tableRow x.op x.width (Addr.group x.addr)).mnemonic := by
  obtain ⟨op, w, addr, v⟩ := x
  simp only [Txn.select]
  generalize Addr.group addr = g
  cases g <;> cases op <;> cases w <;> rfl

/-- A decoded word belongs to a row with its instruction's name. -/
theorem exists_row_of_decode {t : TxnWord} {i : Instr} (h : decode t = .ok i) :
    ∃ r ∈ opcodeTable, r.hits t = true ∧ r.mnemonic = i.mnemonic := by
  obtain ⟨x, hx, rfl⟩ := decode_ok h
  obtain ⟨hrw, hwc, ha, -⟩ := unpack_eq_ok_iff.mp hx
  exact ⟨tableRow x.op x.width (Addr.group x.addr), mem_opcodeTable.mpr ⟨_, _, _, rfl⟩,
    tableRow_hits_iff.mpr ⟨hrw.symm, hwc.symm, congrArg Addr.group ha.symm⟩, (select_mnemonic x).symm⟩

/-- Settles O3: the word belongs to a row of its instruction's name, that name stands in one row, and no other row has
the word. -/
theorem decodeSelectsTheTableRow : Obligations.DecodeSelectsTheTableRow := by
  intro t i hd
  obtain ⟨r₀, hmem, hhit, hname⟩ := exists_row_of_decode hd
  refine ⟨decode_wellFormed hd, fun r hr => ⟨fun h => ?_, fun h => ?_⟩⟩
  · rw [hits_unique hr hmem h hhit, hname]
  · rwa [List.inj_on_of_nodup_map mnemonics_nodup hr hmem (h.trans hname.symm)]

theorem decode_of_reserved {t : TxnWord} (hwc : t.wc = 0b11#2) : decode t = .error .reservedWidthCode := by
  rw [decode, unpack_of_reserved hwc]
  rfl

/-- Every word with a legal width code decodes. -/
theorem exists_decode {t : TxnWord} (hwc : t.wc ≠ 0b11#2) : ∃ i, decode t = .ok i := by
  obtain ⟨op, w, hop, hw⟩ := exists_fields hwc
  exact ⟨_, congrArg (Except.map Txn.select) (unpack_of_fields hop hw)⟩

/-- Settles O4: the reserved code is no row's, and a word with another one has the row of the instruction it decodes to. -/
theorem decodeIsTotal : Obligations.DecodeIsTotal := by
  intro t
  by_cases hwc : t.wc = 0b11#2
  · refine .inl ⟨hwc, decode_of_reserved hwc, fun r hr => ?_⟩
    obtain ⟨op, w, g, rfl⟩ := mem_opcodeTable.mp hr
    refine Bool.eq_false_iff.mpr fun h => code_ne_reserved w ?_
    obtain ⟨-, hw, -⟩ := tableRow_hits_iff.mp h
    exact hw.symm.trans hwc
  · obtain ⟨i, hd⟩ := exists_decode hwc
    obtain ⟨r, hmem, hhit, -⟩ := exists_row_of_decode hd
    exact .inr ⟨hwc, ⟨i, hd⟩, r, ⟨hmem, hhit⟩, fun r' ⟨hmem', hhit'⟩ => hits_unique hmem' hmem hhit' hhit⟩

/-- Settles O5: each word is decoded by evaluation. -/
theorem sampleWordsDecode : Obligations.SampleWordsDecode :=
  ⟨rfl, rfl, rfl, rfl, rfl, rfl, rfl, rfl, rfl, rfl, rfl, rfl, rfl, rfl, rfl, rfl, rfl, rfl, rfl, rfl, rfl, rfl⟩

end Sys2Proof.Proofs
end

section
/-!
PROOFS. The cycles that every input has: a step always answers (R160, R179), a refused word idles (R64), and reset drops
whatever is presented (R118, R192).
-/

namespace Sys2Proof.Proofs

open Sys2Proof.Machine Sys2Proof.Laws

/-- Settles O7: the step is one instruction's cycle, whatever the input, and an instruction leaves the inputs alone. -/
theorem stepAlwaysAnswers : Obligations.StepAlwaysAnswers := by
  intro s
  obtain ⟨i, hstep⟩ := step_is_exec (nextInput s)
  obtain ⟨t, ht, -⟩ := exec_cases i (takeInput s)
  exact ⟨t, (hstep s rfl).trans ht, (cycleEffect_of_exec ht).inputs_eq⟩

/-- Settles O10: the decoder refuses the word, and the cycle of a refused word is that of IDLE. -/
theorem reservedWidthCycleIdles : Obligations.ReservedWidthCycleIdles := by
  intro s t rest hin hwc
  have hd : decodeInput (nextInput s) = .error .reservedWidthCode := by
    rw [nextInput, hin]
    exact decode_of_reserved hwc
  have htake : takeInput s = { s with inputs := rest } := by rw [takeInput, hin, List.tail_cons, State.setInputs]
  refine ⟨hd, ?_⟩
  rw [step, hd, htake]
  rfl

/-- Settles O15: RESET by `resetCycle_eq`, a step with reset asserted by `step_of_reset`. -/
theorem resetCycleResult : Obligations.ResetCycleResult :=
  ⟨fun s => congrArg Host.Outcome.next (resetCycle_eq s), fun _ _ _ hin => step_of_reset hin rfl⟩

end Sys2Proof.Proofs
end
